-- ==== Sys2Proof/Word.lean ====
section
/-! DEFINITION. The word types of the nanoMIPS32 DSP Module and the numbers that name its registers. -/

namespace Sys2Proof

/-- A general register, a half of an accumulator, DSPControl, an address: 32 bits (00_scope.md R10, 10_state.md R30). -/
abbrev Word := BitVec 32

/-- A whole accumulator, `HI || LO` (10_state.md R34). -/
abbrev DWord := BitVec 64

/-- One element of the PH format (00_scope.md R29). -/
abbrev Half := BitVec 16

/-- One element of the QB format, and one byte of memory. -/
abbrev Byte := BitVec 8

/-- The number of a general register (30_encoding.md R83). -/
abbrev Reg := Fin 32

/-- The number of an accumulator, ac0 to ac3 (10_state.md R34). -/
abbrev Acc := Fin 4

end Sys2Proof
end

