-- ==== Sys2Proof/Config.lean ====
section
/-! DEFINITION. What an implementation fixes (00_scope.md R10, 92_eei_decisions.md "Open parameters") and the free values
(00_scope.md R21). A free value is an opaque constant: nothing proved of the model can use what it is. -/

namespace Sys2Proof

/-- How the four bytes of an instruction word lie at PC: the spec's parameter `cfg.fetch_word` (92_eei_decisions.md D18),
restricted to two placements so that it is plain data. Within a unit the byte order is `Config.bigEndianMem`. -/
inductive FetchLayout where
  /-- Two halfwords, bits 31:16 at the lower address. PRESUMED, log 9. -/
  | halfwords
  /-- One 32-bit unit. -/
  | word
  deriving DecidableEq, Repr

/-- The CP0 inputs and implementation parameters that are constant in a run (10_state.md R47, R50; 00_scope.md R10). -/
structure Config where
  /-- CP0 Config3: bit 10 is DSPP and bit 11 is DSP2P; no other bit has a stated place (10_state.md R47). -/
  config3 : Word
  /-- Config3.MMAR, the nanoMIPS release level, which has no stated place in the register (10_state.md R47). -/
  mmar : Nat
  /-- Config.AR, the architecture revision (10_state.md R50). -/
  configAR : Nat
  /-- `cfg.BigEndianMem` (20_memory.md R60). -/
  bigEndianMem : Bool
  /-- `cfg.PABITS`; no rule reads it (00_scope.md R10). -/
  pabits : Nat
  /-- `cfg.misaligned_in_hw`; no instruction reads it (20_memory.md R64). -/
  misalignedInHw : Bool
  /-- `cfg.fetch_word` (92_eei_decisions.md D18). -/
  fetchLayout : FetchLayout
  deriving DecidableEq, Repr

/-- Config3.DSPP: the module is present at Rev1 (10_state.md R47). -/
def Config.dspp (c : Config) : Bool := c.config3.getLsbD 10

/-- Config3.DSP2P: the module is present at Rev2 (10_state.md R47). -/
def Config.dsp2p (c : Config) : Bool := c.config3.getLsbD 11

/-- "the condition of DSP2P set and DSPP unset is invalid" (10_state.md R47; 92_eei_decisions.md D1). -/
def Config.valid (c : Config) : Bool := c.dspp || !c.dsp2p

/-- The conformance condition of Release 6 nanoMIPS DSP (00_scope.md R11), with Config.AR of Release 6 (10_state.md R50). -/
def Config.conforming (c : Config) : Bool :=
  c.dspp && c.dsp2p && decide (3 ≤ c.mmar) && decide (2 ≤ c.configAR)

/-- `MisalignedSupport()` (20_memory.md R64). No instruction of the module uses it. -/
def Config.misalignedSupport (c : Config) : Bool := decide (2 ≤ c.configAR)

/-- The configuration of this hardware. The presence bits, MMAR ≥ 3 and AR ≥ 2 are the spec's (00_scope.md R11, 10_state.md R50);
the other 30 bits of Config3, which no rule gives a value, are 0: DESIGN CHOICE (log 5), as are the byte order, PABITS and
misaligned_in_hw; the layout is PRESUMED (log 9). -/
def Config.thisHardware : Config where
  config3 := 0x00000C00#32
  mmar := 3
  configAR := 2
  bigEndianMem := false
  pabits := 32
  misalignedInHw := true
  fetchLayout := .halfwords

/-- `UNPREDICTABLE(32)` at its n-th occurrence (00_scope.md R21). Free, logs 7 and 14. -/
opaque Config.freeWord : Nat → Word

/-- `UNPREDICTABLE(6)` at its n-th occurrence (00_scope.md R21; 47_acc_dspcontrol.md R376). Free, logs 7 and 14. -/
opaque Config.freeBits6 : Nat → BitVec 6

/-- `UNPREDICTABLE(2)` at its n-th occurrence (00_scope.md R21; 46_compare_pick.md R320). Free, logs 7 and 14. -/
opaque Config.freeBits2 : Nat → BitVec 2

/-- GPR[i] at launch, for i in 1..31: caller-supplied (70_reset_and_hazards.md R441). Free, log 1. -/
opaque Config.launchGpr : Nat → Word

/-- HI[a] at launch: the source gives no reset value and it must not read as 0 (10_state.md R54). Free, log 2. -/
opaque Config.launchHi : Nat → Word

/-- LO[a] at launch, as `launchHi`. Free, log 2. -/
opaque Config.launchLo : Nat → Word

end Sys2Proof
end

