-- ==== Sys2Proof/Syntax.lean ====
section
/-! DEFINITION. The instructions of the nanoMIPS32 DSP Module: one constructor per row of spec/opcode_table.json, with the operands
in the order of the row's assembler form. The bits printed x are no operands (30_encoding.md R84; DESIGN CHOICE, log 11). -/

namespace Sys2Proof

/-- One instruction. Register and accumulator operands are numbers that name them (30_encoding.md R83); immediates are the
integers the fields denote (30_encoding.md R102), and `Instr.wf` bounds them. -/
inductive Instr where
  -- Arithmetic (40_arithmetic.md)
  /-- ADDQ.PH rd, rs, rt (R122). -/
  | addqPh (rd rs rt : Reg)
  /-- ADDQ_S.PH rd, rs, rt (R123). -/
  | addqSPh (rd rs rt : Reg)
  /-- ADDQ_S.W rd, rs, rt (R124). -/
  | addqSW (rd rs rt : Reg)
  /-- ADDU.QB rd, rs, rt (R125). -/
  | adduQb (rd rs rt : Reg)
  /-- ADDU_S.QB rd, rs, rt (R126). -/
  | adduSQb (rd rs rt : Reg)
  /-- ADDUH.QB rd, rs, rt (R127). -/
  | adduhQb (rd rs rt : Reg)
  /-- ADDUH_R.QB rd, rs, rt (R128). -/
  | adduhRQb (rd rs rt : Reg)
  /-- ADDU.PH rd, rs, rt (R129). -/
  | adduPh (rd rs rt : Reg)
  /-- ADDU_S.PH rd, rs, rt (R130). -/
  | adduSPh (rd rs rt : Reg)
  /-- ADDQH.PH rd, rs, rt (R131). -/
  | addqhPh (rd rs rt : Reg)
  /-- ADDQH_R.PH rd, rs, rt (R132). -/
  | addqhRPh (rd rs rt : Reg)
  /-- ADDQH.W rd, rs, rt (R133). -/
  | addqhW (rd rs rt : Reg)
  /-- ADDQH_R.W rd, rs, rt (R134). -/
  | addqhRW (rd rs rt : Reg)
  /-- SUBQ.PH rd, rs, rt (R135). -/
  | subqPh (rd rs rt : Reg)
  /-- SUBQ_S.PH rd, rs, rt (R136). -/
  | subqSPh (rd rs rt : Reg)
  /-- SUBQ_S.W rd, rs, rt (R137). -/
  | subqSW (rd rs rt : Reg)
  /-- SUBU.QB rd, rs, rt (R138). -/
  | subuQb (rd rs rt : Reg)
  /-- SUBU_S.QB rd, rs, rt (R139). -/
  | subuSQb (rd rs rt : Reg)
  /-- SUBUH.QB rd, rs, rt (R140). -/
  | subuhQb (rd rs rt : Reg)
  /-- SUBUH_R.QB rd, rs, rt (R141). -/
  | subuhRQb (rd rs rt : Reg)
  /-- SUBU.PH rd, rs, rt (R142). -/
  | subuPh (rd rs rt : Reg)
  /-- SUBU_S.PH rd, rs, rt (R143). -/
  | subuSPh (rd rs rt : Reg)
  /-- SUBQH.PH rd, rs, rt (R144). -/
  | subqhPh (rd rs rt : Reg)
  /-- SUBQH_R.PH rd, rs, rt (R145). -/
  | subqhRPh (rd rs rt : Reg)
  /-- SUBQH.W rd, rs, rt (R146). -/
  | subqhW (rd rs rt : Reg)
  /-- SUBQH_R.W rd, rs, rt (R147). -/
  | subqhRW (rd rs rt : Reg)
  /-- ADDSC rd, rs, rt (R148). -/
  | addsc (rd rs rt : Reg)
  /-- ADDWC rd, rs, rt (R149). -/
  | addwc (rd rs rt : Reg)
  /-- MODSUB rd, rs, rt (R150). -/
  | modsub (rd rs rt : Reg)
  /-- RADDU.W.QB rt, rs (R151). -/
  | radduWQb (rt rs : Reg)
  /-- ABSQ_S.QB rt, rs (R152). -/
  | absqSQb (rt rs : Reg)
  /-- ABSQ_S.PH rt, rs (R153). -/
  | absqSPh (rt rs : Reg)
  /-- ABSQ_S.W rt, rs (R154). -/
  | absqSW (rt rs : Reg)
  -- Precision reduce and expand (41_precision.md)
  /-- PRECR.QB.PH rd, rs, rt (R171). -/
  | precrQbPh (rd rs rt : Reg)
  /-- PRECRQ.QB.PH rd, rs, rt (R172). -/
  | precrqQbPh (rd rs rt : Reg)
  /-- PRECR_SRA.PH.W rt, rs, sa (R173). -/
  | precrSraPhW (rt rs : Reg) (sa : Nat)
  /-- PRECR_SRA_R.PH.W rt, rs, sa (R174). -/
  | precrSraRPhW (rt rs : Reg) (sa : Nat)
  /-- PRECRQ.PH.W rd, rs, rt (R175). -/
  | precrqPhW (rd rs rt : Reg)
  /-- PRECRQ_RS.PH.W rd, rs, rt (R176). -/
  | precrqRsPhW (rd rs rt : Reg)
  /-- PRECRQU_S.QB.PH rd, rs, rt (R177). -/
  | precrquSQbPh (rd rs rt : Reg)
  /-- PRECEQ.W.PHL rt, rs (R178). -/
  | preceqWPhl (rt rs : Reg)
  /-- PRECEQ.W.PHR rt, rs (R179). -/
  | preceqWPhr (rt rs : Reg)
  /-- PRECEQU.PH.QBL rt, rs (R180). -/
  | precequPhQbl (rt rs : Reg)
  /-- PRECEQU.PH.QBR rt, rs (R181). -/
  | precequPhQbr (rt rs : Reg)
  /-- PRECEQU.PH.QBLA rt, rs (R182). -/
  | precequPhQbla (rt rs : Reg)
  /-- PRECEQU.PH.QBRA rt, rs (R183). -/
  | precequPhQbra (rt rs : Reg)
  /-- PRECEU.PH.QBL rt, rs (R184). -/
  | preceuPhQbl (rt rs : Reg)
  /-- PRECEU.PH.QBR rt, rs (R185). -/
  | preceuPhQbr (rt rs : Reg)
  /-- PRECEU.PH.QBLA rt, rs (R186). -/
  | preceuPhQbla (rt rs : Reg)
  /-- PRECEU.PH.QBRA rt, rs (R187). -/
  | preceuPhQbra (rt rs : Reg)
  -- GPR-based shifts (42_shift.md)
  /-- SHLL.QB rt, rs, sa (R201). -/
  | shllQb (rt rs : Reg) (sa : Nat)
  /-- SHLLV.QB rd, rt, rs (R202). -/
  | shllvQb (rd rt rs : Reg)
  /-- SHLL.PH rt, rs, sa (R203). -/
  | shllPh (rt rs : Reg) (sa : Nat)
  /-- SHLLV.PH rd, rt, rs (R204). -/
  | shllvPh (rd rt rs : Reg)
  /-- SHLL_S.PH rt, rs, sa (R205). -/
  | shllSPh (rt rs : Reg) (sa : Nat)
  /-- SHLLV_S.PH rd, rt, rs (R206). -/
  | shllvSPh (rd rt rs : Reg)
  /-- SHLL_S.W rt, rs, sa (R207). -/
  | shllSW (rt rs : Reg) (sa : Nat)
  /-- SHLLV_S.W rd, rt, rs (R208). -/
  | shllvSW (rd rt rs : Reg)
  /-- SHRL.QB rt, rs, sa (R209). -/
  | shrlQb (rt rs : Reg) (sa : Nat)
  /-- SHRLV.QB rd, rt, rs (R210). -/
  | shrlvQb (rd rt rs : Reg)
  /-- SHRL.PH rt, rs, sa (R211). -/
  | shrlPh (rt rs : Reg) (sa : Nat)
  /-- SHRLV.PH rd, rt, rs (R212). -/
  | shrlvPh (rd rt rs : Reg)
  /-- SHRA.QB rt, rs, sa (R213). -/
  | shraQb (rt rs : Reg) (sa : Nat)
  /-- SHRA_R.QB rt, rs, sa (R214). -/
  | shraRQb (rt rs : Reg) (sa : Nat)
  /-- SHRAV.QB rd, rt, rs (R215). -/
  | shravQb (rd rt rs : Reg)
  /-- SHRAV_R.QB rd, rt, rs (R216). -/
  | shravRQb (rd rt rs : Reg)
  /-- SHRA.PH rt, rs, sa (R217). -/
  | shraPh (rt rs : Reg) (sa : Nat)
  /-- SHRAV.PH rd, rt, rs (R218). -/
  | shravPh (rd rt rs : Reg)
  /-- SHRA_R.PH rt, rs, sa (R219). -/
  | shraRPh (rt rs : Reg) (sa : Nat)
  /-- SHRAV_R.PH rd, rt, rs (R220). -/
  | shravRPh (rd rt rs : Reg)
  /-- SHRA_R.W rt, rs, sa (R221). -/
  | shraRW (rt rs : Reg) (sa : Nat)
  /-- SHRAV_R.W rd, rt, rs (R222). -/
  | shravRW (rd rt rs : Reg)
  -- Multiplies that write a GPR (43_multiply_gpr.md)
  /-- MULEU_S.PH.QBL rd, rs, rt (R241). -/
  | muleuSPhQbl (rd rs rt : Reg)
  /-- MULEU_S.PH.QBR rd, rs, rt (R242). -/
  | muleuSPhQbr (rd rs rt : Reg)
  /-- MULQ_RS.PH rd, rs, rt (R243). -/
  | mulqRsPh (rd rs rt : Reg)
  /-- MULEQ_S.W.PHL rd, rs, rt (R244). -/
  | muleqSWPhl (rd rs rt : Reg)
  /-- MULEQ_S.W.PHR rd, rs, rt (R245). -/
  | muleqSWPhr (rd rs rt : Reg)
  /-- MUL.PH rd, rs, rt (R246). -/
  | mulPh (rd rs rt : Reg)
  /-- MUL_S.PH rd, rs, rt (R247). -/
  | mulSPh (rd rs rt : Reg)
  /-- MULQ_S.PH rd, rs, rt (R248). -/
  | mulqSPh (rd rs rt : Reg)
  /-- MULQ_S.W rd, rs, rt (R249). -/
  | mulqSW (rd rs rt : Reg)
  /-- MULQ_RS.W rd, rs, rt (R250). -/
  | mulqRsW (rd rs rt : Reg)
  -- Multiplies that write an accumulator (44_multiply_acc.md)
  /-- DPAU.H.QBL ac, rs, rt (R262). -/
  | dpauHQbl (ac : Acc) (rs rt : Reg)
  /-- DPAU.H.QBR ac, rs, rt (R263). -/
  | dpauHQbr (ac : Acc) (rs rt : Reg)
  /-- DPSU.H.QBL ac, rs, rt (R264). -/
  | dpsuHQbl (ac : Acc) (rs rt : Reg)
  /-- DPSU.H.QBR ac, rs, rt (R265). -/
  | dpsuHQbr (ac : Acc) (rs rt : Reg)
  /-- DPA.W.PH ac, rs, rt (R266). -/
  | dpaWPh (ac : Acc) (rs rt : Reg)
  /-- DPAX.W.PH ac, rs, rt (R267). -/
  | dpaxWPh (ac : Acc) (rs rt : Reg)
  /-- DPAQ_S.W.PH ac, rs, rt (R268). -/
  | dpaqSWPh (ac : Acc) (rs rt : Reg)
  /-- DPAQX_S.W.PH ac, rs, rt (R269). -/
  | dpaqxSWPh (ac : Acc) (rs rt : Reg)
  /-- DPAQX_SA.W.PH ac, rs, rt (R270). -/
  | dpaqxSaWPh (ac : Acc) (rs rt : Reg)
  /-- DPS.W.PH ac, rs, rt (R271). -/
  | dpsWPh (ac : Acc) (rs rt : Reg)
  /-- DPSX.W.PH ac, rs, rt (R272). -/
  | dpsxWPh (ac : Acc) (rs rt : Reg)
  /-- DPSQ_S.W.PH ac, rs, rt (R273). -/
  | dpsqSWPh (ac : Acc) (rs rt : Reg)
  /-- DPSQX_S.W.PH ac, rs, rt (R274). -/
  | dpsqxSWPh (ac : Acc) (rs rt : Reg)
  /-- DPSQX_SA.W.PH ac, rs, rt (R275). -/
  | dpsqxSaWPh (ac : Acc) (rs rt : Reg)
  /-- MULSAQ_S.W.PH ac, rs, rt (R276). -/
  | mulsaqSWPh (ac : Acc) (rs rt : Reg)
  /-- DPAQ_SA.L.W ac, rs, rt (R277). -/
  | dpaqSaLW (ac : Acc) (rs rt : Reg)
  /-- DPSQ_SA.L.W ac, rs, rt (R278). -/
  | dpsqSaLW (ac : Acc) (rs rt : Reg)
  /-- MAQ_S.W.PHL ac, rs, rt (R279). -/
  | maqSWPhl (ac : Acc) (rs rt : Reg)
  /-- MAQ_S.W.PHR ac, rs, rt (R280). -/
  | maqSWPhr (ac : Acc) (rs rt : Reg)
  /-- MAQ_SA.W.PHL ac, rs, rt (R281). -/
  | maqSaWPhl (ac : Acc) (rs rt : Reg)
  /-- MAQ_SA.W.PHR ac, rs, rt (R282). -/
  | maqSaWPhr (ac : Acc) (rs rt : Reg)
  /-- MULSA.W.PH ac, rs, rt (R283). -/
  | mulsaWPh (ac : Acc) (rs rt : Reg)
  /-- MADD ac, rs, rt (R284). -/
  | madd (ac : Acc) (rs rt : Reg)
  /-- MADDU ac, rs, rt (R285). -/
  | maddu (ac : Acc) (rs rt : Reg)
  /-- MSUB ac, rs, rt (R286). -/
  | msub (ac : Acc) (rs rt : Reg)
  /-- MSUBU ac, rs, rt (R287). -/
  | msubu (ac : Acc) (rs rt : Reg)
  /-- MULT ac, rs, rt (R288). -/
  | mult (ac : Acc) (rs rt : Reg)
  /-- MULTU ac, rs, rt (R289). -/
  | multu (ac : Acc) (rs rt : Reg)
  -- Bit manipulation (45_bitmanip.md)
  /-- BITREV rt, rs (R311). -/
  | bitrev (rt rs : Reg)
  /-- INSV rt, rs (R312). -/
  | insv (rt rs : Reg)
  /-- REPL.QB rt, immediate (R313). -/
  | replQb (rt : Reg) (imm : Nat)
  /-- REPLV.QB rt, rs (R314). -/
  | replvQb (rt rs : Reg)
  /-- REPL.PH rt, immediate (R315). -/
  | replPh (rt : Reg) (imm : Int)
  /-- REPLV.PH rt, rs (R316). -/
  | replvPh (rt rs : Reg)
  -- Compare, pick and pack (46_compare_pick.md)
  /-- CMPU.EQ.QB rs, rt (R321). -/
  | cmpuEqQb (rs rt : Reg)
  /-- CMPU.LT.QB rs, rt (R322). -/
  | cmpuLtQb (rs rt : Reg)
  /-- CMPU.LE.QB rs, rt (R323). -/
  | cmpuLeQb (rs rt : Reg)
  /-- CMPGDU.EQ.QB rd, rs, rt (R324). -/
  | cmpgduEqQb (rd rs rt : Reg)
  /-- CMPGDU.LT.QB rd, rs, rt (R325). -/
  | cmpgduLtQb (rd rs rt : Reg)
  /-- CMPGDU.LE.QB rd, rs, rt (R326). -/
  | cmpgduLeQb (rd rs rt : Reg)
  /-- CMPGU.EQ.QB rd, rs, rt (R327). -/
  | cmpguEqQb (rd rs rt : Reg)
  /-- CMPGU.LT.QB rd, rs, rt (R328). -/
  | cmpguLtQb (rd rs rt : Reg)
  /-- CMPGU.LE.QB rd, rs, rt (R329). -/
  | cmpguLeQb (rd rs rt : Reg)
  /-- CMP.EQ.PH rs, rt (R330). -/
  | cmpEqPh (rs rt : Reg)
  /-- CMP.LT.PH rs, rt (R331). -/
  | cmpLtPh (rs rt : Reg)
  /-- CMP.LE.PH rs, rt (R332). -/
  | cmpLePh (rs rt : Reg)
  /-- PICK.QB rd, rs, rt (R333). -/
  | pickQb (rd rs rt : Reg)
  /-- PICK.PH rd, rs, rt (R334). -/
  | pickPh (rd rs rt : Reg)
  /-- PACKRL.PH rd, rs, rt (R338). -/
  | packrlPh (rd rs rt : Reg)
  -- Accumulator and DSPControl access (47_acc_dspcontrol.md)
  /-- EXTR.W rt, ac, shift (R351). -/
  | extrW (rt : Reg) (ac : Acc) (shift : Nat)
  /-- EXTR_R.W rt, ac, shift (R352). -/
  | extrRW (rt : Reg) (ac : Acc) (shift : Nat)
  /-- EXTR_RS.W rt, ac, shift (R353). -/
  | extrRsW (rt : Reg) (ac : Acc) (shift : Nat)
  /-- EXTR_S.H rt, ac, shift (R354). -/
  | extrSH (rt : Reg) (ac : Acc) (shift : Nat)
  /-- EXTRV_S.H rt, ac, rs (R355). -/
  | extrvSH (rt : Reg) (ac : Acc) (rs : Reg)
  /-- EXTRV.W rt, ac, rs (R356). -/
  | extrvW (rt : Reg) (ac : Acc) (rs : Reg)
  /-- EXTRV_R.W rt, ac, rs (R357). -/
  | extrvRW (rt : Reg) (ac : Acc) (rs : Reg)
  /-- EXTRV_RS.W rt, ac, rs (R358). -/
  | extrvRsW (rt : Reg) (ac : Acc) (rs : Reg)
  /-- EXTP rt, ac, size (R361). -/
  | extp (rt : Reg) (ac : Acc) (size : Nat)
  /-- EXTPV rt, ac, rs (R362). -/
  | extpv (rt : Reg) (ac : Acc) (rs : Reg)
  /-- EXTPDP rt, ac, size (R363). -/
  | extpdp (rt : Reg) (ac : Acc) (size : Nat)
  /-- EXTPDPV rt, ac, rs (R364). -/
  | extpdpv (rt : Reg) (ac : Acc) (rs : Reg)
  /-- SHILO ac, shift (R370). -/
  | shilo (ac : Acc) (shift : Int)
  /-- SHILOV ac, rs (R371). -/
  | shilov (ac : Acc) (rs : Reg)
  /-- MTHLIP rs, ac (R376). -/
  | mthlip (rs : Reg) (ac : Acc)
  /-- MFHI rt, ac (R377). -/
  | mfhi (rt : Reg) (ac : Acc)
  /-- MFLO rt, ac (R378). -/
  | mflo (rt : Reg) (ac : Acc)
  /-- MTHI rs, ac (R379). -/
  | mthi (rs : Reg) (ac : Acc)
  /-- MTLO rs, ac (R380). -/
  | mtlo (rs : Reg) (ac : Acc)
  /-- WRDSP rt, mask (R384). -/
  | wrdsp (rt : Reg) (mask : Nat)
  /-- RDDSP rt, mask (R385). -/
  | rddsp (rt : Reg) (mask : Nat)
  -- Branch on pos (48_load_branch.md)
  /-- BPOSGE32C offset (R396). -/
  | bposge32c (offset : Int)
  deriving DecidableEq, Repr

end Sys2Proof
end

