-- ==== Sys2Proof/WellFormed.lean ====
section
/-! DEFINITION. Which instructions have an encoding: every immediate in the range of its field (30_encoding.md R102). Every value of a
register, accumulator or immediate field is legal (R106), so nothing else is checked. -/

namespace Sys2Proof

/-- Each immediate is within the range of R102; the branch offset is also even (R96). -/
def Instr.wf (i : Instr) : Bool :=
  match i with
  | .addqPh .. | .addqSPh .. | .addqSW .. | .adduQb .. | .adduSQb ..
  | .adduhQb .. | .adduhRQb .. | .adduPh .. | .adduSPh .. | .addqhPh ..
  | .addqhRPh .. | .addqhW .. | .addqhRW .. | .subqPh .. | .subqSPh ..
  | .subqSW .. | .subuQb .. | .subuSQb .. | .subuhQb .. | .subuhRQb ..
  | .subuPh .. | .subuSPh .. | .subqhPh .. | .subqhRPh .. | .subqhW ..
  | .subqhRW .. | .addsc .. | .addwc .. | .modsub .. | .radduWQb ..
  | .absqSQb .. | .absqSPh .. | .absqSW .. | .precrQbPh .. | .precrqQbPh ..
  | .precrqPhW .. | .precrqRsPhW .. | .precrquSQbPh .. | .preceqWPhl .. | .preceqWPhr ..
  | .precequPhQbl .. | .precequPhQbr .. | .precequPhQbla .. | .precequPhQbra .. | .preceuPhQbl ..
  | .preceuPhQbr .. | .preceuPhQbla .. | .preceuPhQbra .. | .shllvQb .. | .shllvPh ..
  | .shllvSPh .. | .shllvSW .. | .shrlvQb .. | .shrlvPh .. | .shravQb ..
  | .shravRQb .. | .shravPh .. | .shravRPh .. | .shravRW .. | .muleuSPhQbl ..
  | .muleuSPhQbr .. | .mulqRsPh .. | .muleqSWPhl .. | .muleqSWPhr .. | .mulPh ..
  | .mulSPh .. | .mulqSPh .. | .mulqSW .. | .mulqRsW .. | .dpauHQbl ..
  | .dpauHQbr .. | .dpsuHQbl .. | .dpsuHQbr .. | .dpaWPh .. | .dpaxWPh ..
  | .dpaqSWPh .. | .dpaqxSWPh .. | .dpaqxSaWPh .. | .dpsWPh .. | .dpsxWPh ..
  | .dpsqSWPh .. | .dpsqxSWPh .. | .dpsqxSaWPh .. | .mulsaqSWPh .. | .dpaqSaLW ..
  | .dpsqSaLW .. | .maqSWPhl .. | .maqSWPhr .. | .maqSaWPhl .. | .maqSaWPhr ..
  | .mulsaWPh .. | .madd .. | .maddu .. | .msub .. | .msubu ..
  | .mult .. | .multu .. | .bitrev .. | .insv .. | .replvQb ..
  | .replvPh .. | .cmpuEqQb .. | .cmpuLtQb .. | .cmpuLeQb .. | .cmpgduEqQb ..
  | .cmpgduLtQb .. | .cmpgduLeQb .. | .cmpguEqQb .. | .cmpguLtQb .. | .cmpguLeQb ..
  | .cmpEqPh .. | .cmpLtPh .. | .cmpLePh .. | .pickQb .. | .pickPh ..
  | .packrlPh .. | .extrvSH .. | .extrvW .. | .extrvRW .. | .extrvRsW ..
  | .extpv .. | .extpdpv .. | .shilov .. | .mthlip .. | .mfhi ..
  | .mflo .. | .mthi .. | .mtlo .. => true
  | .precrSraPhW _ _ sa | .precrSraRPhW _ _ sa | .shllSW _ _ sa | .shraRW _ _ sa => decide (sa < 32)
  | .shllQb _ _ sa | .shrlQb _ _ sa | .shraQb _ _ sa | .shraRQb _ _ sa => decide (sa < 8)
  | .shllPh _ _ sa | .shllSPh _ _ sa | .shrlPh _ _ sa | .shraPh _ _ sa | .shraRPh _ _ sa => decide (sa < 16)
  | .replQb _ imm => decide (imm < 256)
  | .replPh _ imm => decide (-512 ≤ imm) && decide (imm ≤ 511)
  | .extrW _ _ shift | .extrRW _ _ shift | .extrRsW _ _ shift | .extrSH _ _ shift => decide (shift < 32)
  | .extp _ _ size | .extpdp _ _ size => decide (size < 32)
  | .shilo _ shift => decide (-32 ≤ shift) && decide (shift ≤ 31)
  | .wrdsp _ mask | .rddsp _ mask => decide (mask < 128)
  | .bposge32c offset => decide (-16384 ≤ offset) && decide (offset ≤ 16382) && decide (offset % 2 = 0)

end Sys2Proof
end

