-- ==== Sys2Proof/Decode.lean ====
section
/-! DEFINITION. Decoding and encoding of the 153 instruction words (30_encoding.md), and how a word lies in memory. The decoder is
the tree of fields of R82; no two rows overlap (R101), so the order of its tests does not matter. -/

namespace Sys2Proof

/-- The `len` bits of w from bit `lo` up, as a number: `w[lo+len-1:lo]` (00_scope.md R12). -/
def fld (w : Word) (lo len : Nat) : Nat := w.toNat / 2 ^ lo % 2 ^ len

/-- The number below `2 ^ len` that is x in two's complement (30_encoding.md R102). -/
def twos (x : Int) (len : Nat) : Nat := (x % (2 ^ len : Nat)).toNat

/-- The integer that the low `len` bits of n denote in two's complement (00_scope.md R15). -/
def ofTwos (n len : Nat) : Int := if 2 * n < 2 ^ len then n else (n : Int) - (2 ^ len : Nat)

/-- A signed immediate field (30_encoding.md R102). -/
def signedFld (w : Word) (lo len : Nat) : Int := ofTwos (fld w lo len) len

/-- Bits [25:21] (30_encoding.md R83). -/
def rtAt (w : Word) : Reg := Fin.ofNat 32 (fld w 21 5)

/-- Bits [20:16] (30_encoding.md R83). -/
def rsAt (w : Word) : Reg := Fin.ofNat 32 (fld w 16 5)

/-- Bits [15:11] (30_encoding.md R83). -/
def rdAt (w : Word) : Reg := Fin.ofNat 32 (fld w 11 5)

/-- Bits [15:14] (30_encoding.md R83). -/
def acAt (w : Word) : Acc := Fin.ofNat 4 (fld w 14 2)

/-- The BPOSGE32C offset `sext(s[14] || s[13:1] || 0)`, with s[13:1] in bits [13:1] and s[14] in bit [0] (30_encoding.md R96;
DEDUCED from the figure against the prose, log 18). -/
def branchOffset (w : Word) : Int := ofTwos (fld w 0 1 * 16384 + fld w 1 13 * 2) 15

/-- The two stored pieces of a BPOSGE32C offset in their places (30_encoding.md R96). -/
def branchField (offset : Int) : Nat := twos offset 15 / 2 % 8192 * 2 + twos offset 15 / 16384

/-- Pool [2:0] = 101, column [5:3] = 000 (30_encoding.md R97); row = [9:6], then bit 10 where it is fixed. -/
def decode3R0 (w : Word) : Option Instr :=
  match fld w 6 4 with
  | 0 => some (.cmpEqPh (rsAt w) (rtAt w))
  | 1 => some (.cmpLtPh (rsAt w) (rtAt w))
  | 2 => some (.cmpLePh (rsAt w) (rtAt w))
  | 3 => some (.cmpguEqQb (rdAt w) (rsAt w) (rtAt w))
  | 4 => some (.cmpguLtQb (rdAt w) (rsAt w) (rtAt w))
  | 5 => some (.cmpguLeQb (rdAt w) (rsAt w) (rtAt w))
  | 6 => some (.cmpgduEqQb (rdAt w) (rsAt w) (rtAt w))
  | 7 => some (.cmpgduLtQb (rdAt w) (rsAt w) (rtAt w))
  | 8 => some (.cmpgduLeQb (rdAt w) (rsAt w) (rtAt w))
  | 9 => some (.cmpuEqQb (rsAt w) (rtAt w))
  | 10 => some (.cmpuLtQb (rsAt w) (rtAt w))
  | 11 => some (.cmpuLeQb (rsAt w) (rtAt w))
  | 12 => some (.addqSW (rdAt w) (rsAt w) (rtAt w))
  | 13 => some (.subqSW (rdAt w) (rsAt w) (rtAt w))
  | 14 => some (.addsc (rdAt w) (rsAt w) (rtAt w))
  | 15 => some (.addwc (rdAt w) (rsAt w) (rtAt w))
  | _ => none

/-- Pool [2:0] = 101, column [5:3] = 001 (30_encoding.md R97); row = [9:6], then bit 10 where it is fixed. -/
def decode3R1 (w : Word) : Option Instr :=
  match fld w 6 4 with
  | 0 => if fld w 10 1 = 0 then some (.addqPh (rdAt w) (rsAt w) (rtAt w)) else some (.addqSPh (rdAt w) (rsAt w) (rtAt w))
  | 1 => if fld w 10 1 = 0 then some (.addqhPh (rdAt w) (rsAt w) (rtAt w)) else some (.addqhRPh (rdAt w) (rsAt w) (rtAt w))
  | 2 => if fld w 10 1 = 0 then some (.addqhW (rdAt w) (rsAt w) (rtAt w)) else some (.addqhRW (rdAt w) (rsAt w) (rtAt w))
  | 3 => if fld w 10 1 = 0 then some (.adduQb (rdAt w) (rsAt w) (rtAt w)) else some (.adduSQb (rdAt w) (rsAt w) (rtAt w))
  | 4 => if fld w 10 1 = 0 then some (.adduPh (rdAt w) (rsAt w) (rtAt w)) else some (.adduSPh (rdAt w) (rsAt w) (rtAt w))
  | 5 => if fld w 10 1 = 0 then some (.adduhQb (rdAt w) (rsAt w) (rtAt w)) else some (.adduhRQb (rdAt w) (rsAt w) (rtAt w))
  | 6 => if fld w 10 1 = 0 then some (.shravPh (rdAt w) (rtAt w) (rsAt w)) else some (.shravRPh (rdAt w) (rtAt w) (rsAt w))
  | 7 => if fld w 10 1 = 0 then some (.shravQb (rdAt w) (rtAt w) (rsAt w)) else some (.shravRQb (rdAt w) (rtAt w) (rsAt w))
  | 8 => if fld w 10 1 = 0 then some (.subqPh (rdAt w) (rsAt w) (rtAt w)) else some (.subqSPh (rdAt w) (rsAt w) (rtAt w))
  | 9 => if fld w 10 1 = 0 then some (.subqhPh (rdAt w) (rsAt w) (rtAt w)) else some (.subqhRPh (rdAt w) (rsAt w) (rtAt w))
  | 10 => if fld w 10 1 = 0 then some (.subqhW (rdAt w) (rsAt w) (rtAt w)) else some (.subqhRW (rdAt w) (rsAt w) (rtAt w))
  | 11 => if fld w 10 1 = 0 then some (.subuQb (rdAt w) (rsAt w) (rtAt w)) else some (.subuSQb (rdAt w) (rsAt w) (rtAt w))
  | 12 => if fld w 10 1 = 0 then some (.subuPh (rdAt w) (rsAt w) (rtAt w)) else some (.subuSPh (rdAt w) (rsAt w) (rtAt w))
  | 13 => if fld w 10 1 = 0 then some (.subuhQb (rdAt w) (rsAt w) (rtAt w)) else some (.subuhRQb (rdAt w) (rsAt w) (rtAt w))
  | 14 => if fld w 10 1 = 0 then some (.shllvPh (rdAt w) (rtAt w) (rsAt w)) else some (.shllvSPh (rdAt w) (rtAt w) (rsAt w))
  | 15 => if fld w 10 1 = 0 then some (.precrSraPhW (rtAt w) (rsAt w) (fld w 11 5)) else some (.precrSraRPhW (rtAt w) (rsAt w) (fld w 11 5))
  | _ => none

/-- Pool [2:0] = 101, column [5:3] = 010 (30_encoding.md R97); row = [9:6], then bit 10 where it is fixed. -/
def decode3R2 (w : Word) : Option Instr :=
  match fld w 6 4 with
  | 2 => some (.muleuSPhQbl (rdAt w) (rsAt w) (rtAt w))
  | 3 => some (.muleuSPhQbr (rdAt w) (rsAt w) (rtAt w))
  | 4 => some (.mulqRsPh (rdAt w) (rsAt w) (rtAt w))
  | 5 => some (.mulqSPh (rdAt w) (rsAt w) (rtAt w))
  | 6 => some (.mulqRsW (rdAt w) (rsAt w) (rtAt w))
  | 7 => some (.mulqSW (rdAt w) (rsAt w) (rtAt w))
  | 10 => some (.modsub (rdAt w) (rsAt w) (rtAt w))
  | 11 => some (.shravRW (rdAt w) (rtAt w) (rsAt w))
  | 12 => some (.shrlvPh (rdAt w) (rtAt w) (rsAt w))
  | 13 => some (.shrlvQb (rdAt w) (rtAt w) (rsAt w))
  | 14 => some (.shllvQb (rdAt w) (rtAt w) (rsAt w))
  | 15 => some (.shllvSW (rdAt w) (rtAt w) (rsAt w))
  | _ => none

/-- Pool [2:0] = 101, column [5:3] = 011 (30_encoding.md R97); row = [9:6], then bit 10 where it is fixed. -/
def decode3R3 (w : Word) : Option Instr :=
  match fld w 6 4 with
  | 0 => some (.shilo (acAt w) (signedFld w 16 6))
  | _ => none

/-- Pool [2:0] = 101, column [5:3] = 100 (30_encoding.md R97); row = [9:6], then bit 10 where it is fixed. -/
def decode3R4 (w : Word) : Option Instr :=
  match fld w 6 4 with
  | 0 => some (.muleqSWPhl (rdAt w) (rsAt w) (rtAt w))
  | 1 => some (.muleqSWPhr (rdAt w) (rsAt w) (rtAt w))
  | _ => none

/-- Pool [2:0] = 101, column [5:3] = 101 (30_encoding.md R97); row = [9:6], then bit 10 where it is fixed. -/
def decode3R5 (w : Word) : Option Instr :=
  match fld w 6 4 with
  | 0 => if fld w 10 1 = 0 then some (.mulPh (rdAt w) (rsAt w) (rtAt w)) else some (.mulSPh (rdAt w) (rsAt w) (rtAt w))
  | 1 => some (.precrQbPh (rdAt w) (rsAt w) (rtAt w))
  | 2 => some (.precrqQbPh (rdAt w) (rsAt w) (rtAt w))
  | 3 => some (.precrqPhW (rdAt w) (rsAt w) (rtAt w))
  | 4 => some (.precrqRsPhW (rdAt w) (rsAt w) (rtAt w))
  | 5 => some (.precrquSQbPh (rdAt w) (rsAt w) (rtAt w))
  | 6 => some (.packrlPh (rdAt w) (rsAt w) (rtAt w))
  | 7 => some (.pickQb (rdAt w) (rsAt w) (rtAt w))
  | 8 => some (.pickPh (rdAt w) (rsAt w) (rtAt w))
  | _ => none

/-- Pool [2:0] = 101, column [5:3] = 110 (30_encoding.md R97); row = [9:6], then bit 10 where it is fixed. -/
def decode3R6 (w : Word) : Option Instr :=
  match fld w 6 4 with
  | 11 => some (.shraRW (rtAt w) (rsAt w) (fld w 11 5))
  | 12 => if fld w 10 1 = 0 then some (.shraPh (rtAt w) (rsAt w) (fld w 12 4)) else some (.shraRPh (rtAt w) (rsAt w) (fld w 12 4))
  | 14 =>
    match fld w 10 2 with
    | 0 => some (.shllPh (rtAt w) (rsAt w) (fld w 12 4))
    | 2 => some (.shllSPh (rtAt w) (rsAt w) (fld w 12 4))
    | _ => none
  | 15 => some (.shllSW (rtAt w) (rsAt w) (fld w 11 5))
  | _ => none

/-- Pool [2:0] = 101, column [5:3] = 111 (30_encoding.md R97); row = [9:6], then bit 10 where it is fixed. -/
def decode3R7 (w : Word) : Option Instr :=
  match fld w 6 4 with
  | 0 => some (.replPh (rtAt w) (signedFld w 11 10))
  | _ => none

/-- Pool [2:0] = 101 (30_encoding.md R82, R97). -/
def decode3R (w : Word) : Option Instr :=
  match fld w 3 3 with
  | 0 => decode3R0 w
  | 1 => decode3R1 w
  | 2 => decode3R2 w
  | 3 => decode3R3 w
  | 4 => decode3R4 w
  | 5 => decode3R5 w
  | 6 => decode3R6 w
  | 7 => decode3R7 w
  | _ => none

/-- Format 2R, [8:0] = 100111111: the function code is [15:9], here its halves [15:12] and [11:9] (30_encoding.md R88, R98). -/
def decode2R (w : Word) : Option Instr :=
  match fld w 9 3, fld w 12 4 with
  | 0, 0 => some (.absqSQb (rtAt w) (rsAt w))
  | 0, 1 => some (.absqSPh (rtAt w) (rsAt w))
  | 0, 2 => some (.absqSW (rtAt w) (rsAt w))
  | 0, 3 => some (.bitrev (rtAt w) (rsAt w))
  | 0, 4 => some (.insv (rtAt w) (rsAt w))
  | 0, 5 => some (.preceqWPhl (rtAt w) (rsAt w))
  | 0, 6 => some (.preceqWPhr (rtAt w) (rsAt w))
  | 0, 7 => some (.precequPhQbl (rtAt w) (rsAt w))
  | 0, 9 => some (.precequPhQbr (rtAt w) (rsAt w))
  | 0, 11 => some (.preceuPhQbl (rtAt w) (rsAt w))
  | 0, 13 => some (.preceuPhQbr (rtAt w) (rsAt w))
  | 0, 15 => some (.radduWQb (rtAt w) (rsAt w))
  | 1, 0 => some (.replvPh (rtAt w) (rsAt w))
  | 1, 1 => some (.replvQb (rtAt w) (rsAt w))
  | 1, 7 => some (.precequPhQbla (rtAt w) (rsAt w))
  | 1, 9 => some (.precequPhQbra (rtAt w) (rsAt w))
  | 1, 11 => some (.preceuPhQbla (rtAt w) (rsAt w))
  | 1, 13 => some (.preceuPhQbra (rtAt w) (rsAt w))
  | _, _ => none

/-- [8:6] = 010, [5:0] = 111111: function bits b = [11:9], a = [13:12] (30_encoding.md R89, R90, R99). -/
def decodeAC2 (w : Word) : Option Instr :=
  match fld w 9 3, fld w 12 2 with
  | 0, 0 => some (.dpaWPh (acAt w) (rsAt w) (rtAt w))
  | 0, 1 => some (.dpaxWPh (acAt w) (rsAt w) (rtAt w))
  | 0, 2 => some (.dpauHQbl (acAt w) (rsAt w) (rtAt w))
  | 0, 3 => some (.dpauHQbr (acAt w) (rsAt w) (rtAt w))
  | 1, 0 => some (.dpaqSWPh (acAt w) (rsAt w) (rtAt w))
  | 1, 1 => some (.dpaqSaLW (acAt w) (rsAt w) (rtAt w))
  | 1, 2 => some (.dpaqxSWPh (acAt w) (rsAt w) (rtAt w))
  | 1, 3 => some (.dpaqxSaWPh (acAt w) (rsAt w) (rtAt w))
  | 2, 0 => some (.dpsWPh (acAt w) (rsAt w) (rtAt w))
  | 2, 1 => some (.dpsxWPh (acAt w) (rsAt w) (rtAt w))
  | 2, 2 => some (.dpsuHQbl (acAt w) (rsAt w) (rtAt w))
  | 2, 3 => some (.dpsuHQbr (acAt w) (rsAt w) (rtAt w))
  | 3, 0 => some (.dpsqSWPh (acAt w) (rsAt w) (rtAt w))
  | 3, 1 => some (.dpsqSaLW (acAt w) (rsAt w) (rtAt w))
  | 3, 2 => some (.dpsqxSWPh (acAt w) (rsAt w) (rtAt w))
  | 3, 3 => some (.dpsqxSaWPh (acAt w) (rsAt w) (rtAt w))
  | 4, 2 => some (.extpv (rtAt w) (acAt w) (rsAt w))
  | 4, 3 => some (.extpdpv (rtAt w) (acAt w) (rsAt w))
  | 5, 0 => some (.madd (acAt w) (rsAt w) (rtAt w))
  | 5, 1 => some (.maddu (acAt w) (rsAt w) (rtAt w))
  | 5, 2 => some (.msub (acAt w) (rsAt w) (rtAt w))
  | 5, 3 => some (.msubu (acAt w) (rsAt w) (rtAt w))
  | 6, 0 => some (.mult (acAt w) (rsAt w) (rtAt w))
  | 6, 1 => some (.multu (acAt w) (rsAt w) (rtAt w))
  | 6, 2 => some (.mulsaWPh (acAt w) (rsAt w) (rtAt w))
  | 6, 3 => some (.mulsaqSWPh (acAt w) (rsAt w) (rtAt w))
  | 7, 0 => some (.extrvW (rtAt w) (acAt w) (rsAt w))
  | 7, 1 => some (.extrvRW (rtAt w) (acAt w) (rsAt w))
  | 7, 2 => some (.extrvRsW (rtAt w) (acAt w) (rsAt w))
  | 7, 3 => some (.extrvSH (rtAt w) (acAt w) (rsAt w))
  | _, _ => none

/-- [8:6] = 001, [5:0] = 111111: function bits b = [11:9], a = [13:12] (30_encoding.md R89, R90, R99, and the sa3 shifts of R100 at b = 100). -/
def decodeAC1 (w : Word) : Option Instr :=
  match fld w 9 3, fld w 12 2 with
  | 0, 0 => some (.mfhi (rtAt w) (acAt w))
  | 0, 1 => some (.mflo (rtAt w) (acAt w))
  | 0, 2 => some (.mthi (rsAt w) (acAt w))
  | 0, 3 => some (.mtlo (rsAt w) (acAt w))
  | 1, 0 => some (.mthlip (rsAt w) (acAt w))
  | 1, 1 => some (.shilov (acAt w) (rsAt w))
  | 3, 0 => some (.rddsp (rtAt w) (fld w 14 7))
  | 3, 1 => some (.wrdsp (rtAt w) (fld w 14 7))
  | 3, 2 => some (.extp (rtAt w) (acAt w) (fld w 16 5))
  | 3, 3 => some (.extpdp (rtAt w) (acAt w) (fld w 16 5))
  | 5, 0 => some (.maqSWPhr (acAt w) (rsAt w) (rtAt w))
  | 5, 1 => some (.maqSWPhl (acAt w) (rsAt w) (rtAt w))
  | 5, 2 => some (.maqSaWPhr (acAt w) (rsAt w) (rtAt w))
  | 5, 3 => some (.maqSaWPhl (acAt w) (rsAt w) (rtAt w))
  | 7, 0 => some (.extrW (rtAt w) (acAt w) (fld w 16 5))
  | 7, 1 => some (.extrRW (rtAt w) (acAt w) (fld w 16 5))
  | 7, 2 => some (.extrRsW (rtAt w) (acAt w) (fld w 16 5))
  | 7, 3 => some (.extrSH (rtAt w) (acAt w) (fld w 16 5))
  | 4, _ => if fld w 12 1 = 0 then some (.shllQb (rtAt w) (rsAt w) (fld w 13 3)) else some (.shrlQb (rtAt w) (rsAt w) (fld w 13 3))
  | _, _ => none

/-- [8:6] = 111, [5:0] = 111111: immediate shifts and REPL.QB, split by [11:9] (30_encoding.md R91 to R93, R100). -/
def decodeImm (w : Word) : Option Instr :=
  match fld w 9 3 with
  | 0 => if fld w 12 1 = 0 then some (.shraQb (rtAt w) (rsAt w) (fld w 13 3)) else some (.shraRQb (rtAt w) (rsAt w) (fld w 13 3))
  | 1 => some (.shrlPh (rtAt w) (rsAt w) (fld w 12 4))
  | 2 => some (.replQb (rtAt w) (fld w 13 8))
  | _ => none

/-- Pool [2:0] = 111 of major opcode P32A: [5:3] = 111, split by [8:6] (30_encoding.md R82). -/
def decodePool7 (w : Word) : Option Instr :=
  match fld w 3 3, fld w 6 3 with
  | 7, 4 => decode2R w
  | 7, 2 => decodeAC2 w
  | 7, 1 => decodeAC1 w
  | 7, 7 => decodeImm w
  | _, _ => none

/-- Major opcode P32A, 001000 (30_encoding.md R80, R82). -/
def decodeP32A (w : Word) : Option Instr :=
  match fld w 0 3 with
  | 5 => decode3R w
  | 7 => decodePool7 w
  | _ => none

/-- The instruction a word encodes, `none` for a word that matches no row (30_encoding.md R97 to R101, R105). Bits printed x
take no part (R84; DESIGN CHOICE, log 11). -/
def decode (w : Word) : Option Instr :=
  match fld w 26 6 with
  | 8 => decodeP32A w
  | 34 => if fld w 16 5 = 4 ∧ fld w 14 2 = 1 then some (.bposge32c (branchOffset w)) else none
  | _ => none

/-- The word of an instruction as a number: the row's match value (30_encoding.md R97 to R100) plus its fields; bits printed x are
0, as an assembler emits them (R84). A field too large for its place is cut; `Instr.wf` says when it is not. -/
def encodeNat (i : Instr) : Nat :=
  match i with
  | .addqPh rd rs rt => 0x2000000D + (rd.val * 2048 + rs.val * 65536 + rt.val * 2097152)
  | .addqSPh rd rs rt => 0x2000040D + (rd.val * 2048 + rs.val * 65536 + rt.val * 2097152)
  | .addqSW rd rs rt => 0x20000305 + (rd.val * 2048 + rs.val * 65536 + rt.val * 2097152)
  | .adduQb rd rs rt => 0x200000CD + (rd.val * 2048 + rs.val * 65536 + rt.val * 2097152)
  | .adduSQb rd rs rt => 0x200004CD + (rd.val * 2048 + rs.val * 65536 + rt.val * 2097152)
  | .adduhQb rd rs rt => 0x2000014D + (rd.val * 2048 + rs.val * 65536 + rt.val * 2097152)
  | .adduhRQb rd rs rt => 0x2000054D + (rd.val * 2048 + rs.val * 65536 + rt.val * 2097152)
  | .adduPh rd rs rt => 0x2000010D + (rd.val * 2048 + rs.val * 65536 + rt.val * 2097152)
  | .adduSPh rd rs rt => 0x2000050D + (rd.val * 2048 + rs.val * 65536 + rt.val * 2097152)
  | .addqhPh rd rs rt => 0x2000004D + (rd.val * 2048 + rs.val * 65536 + rt.val * 2097152)
  | .addqhRPh rd rs rt => 0x2000044D + (rd.val * 2048 + rs.val * 65536 + rt.val * 2097152)
  | .addqhW rd rs rt => 0x2000008D + (rd.val * 2048 + rs.val * 65536 + rt.val * 2097152)
  | .addqhRW rd rs rt => 0x2000048D + (rd.val * 2048 + rs.val * 65536 + rt.val * 2097152)
  | .subqPh rd rs rt => 0x2000020D + (rd.val * 2048 + rs.val * 65536 + rt.val * 2097152)
  | .subqSPh rd rs rt => 0x2000060D + (rd.val * 2048 + rs.val * 65536 + rt.val * 2097152)
  | .subqSW rd rs rt => 0x20000345 + (rd.val * 2048 + rs.val * 65536 + rt.val * 2097152)
  | .subuQb rd rs rt => 0x200002CD + (rd.val * 2048 + rs.val * 65536 + rt.val * 2097152)
  | .subuSQb rd rs rt => 0x200006CD + (rd.val * 2048 + rs.val * 65536 + rt.val * 2097152)
  | .subuhQb rd rs rt => 0x2000034D + (rd.val * 2048 + rs.val * 65536 + rt.val * 2097152)
  | .subuhRQb rd rs rt => 0x2000074D + (rd.val * 2048 + rs.val * 65536 + rt.val * 2097152)
  | .subuPh rd rs rt => 0x2000030D + (rd.val * 2048 + rs.val * 65536 + rt.val * 2097152)
  | .subuSPh rd rs rt => 0x2000070D + (rd.val * 2048 + rs.val * 65536 + rt.val * 2097152)
  | .subqhPh rd rs rt => 0x2000024D + (rd.val * 2048 + rs.val * 65536 + rt.val * 2097152)
  | .subqhRPh rd rs rt => 0x2000064D + (rd.val * 2048 + rs.val * 65536 + rt.val * 2097152)
  | .subqhW rd rs rt => 0x2000028D + (rd.val * 2048 + rs.val * 65536 + rt.val * 2097152)
  | .subqhRW rd rs rt => 0x2000068D + (rd.val * 2048 + rs.val * 65536 + rt.val * 2097152)
  | .addsc rd rs rt => 0x20000385 + (rd.val * 2048 + rs.val * 65536 + rt.val * 2097152)
  | .addwc rd rs rt => 0x200003C5 + (rd.val * 2048 + rs.val * 65536 + rt.val * 2097152)
  | .modsub rd rs rt => 0x20000295 + (rd.val * 2048 + rs.val * 65536 + rt.val * 2097152)
  | .radduWQb rt rs => 0x2000F13F + (rt.val * 2097152 + rs.val * 65536)
  | .absqSQb rt rs => 0x2000013F + (rt.val * 2097152 + rs.val * 65536)
  | .absqSPh rt rs => 0x2000113F + (rt.val * 2097152 + rs.val * 65536)
  | .absqSW rt rs => 0x2000213F + (rt.val * 2097152 + rs.val * 65536)
  | .precrQbPh rd rs rt => 0x2000006D + (rd.val * 2048 + rs.val * 65536 + rt.val * 2097152)
  | .precrqQbPh rd rs rt => 0x200000AD + (rd.val * 2048 + rs.val * 65536 + rt.val * 2097152)
  | .precrSraPhW rt rs sa => 0x200003CD + (rt.val * 2097152 + rs.val * 65536 + sa % 32 * 2048)
  | .precrSraRPhW rt rs sa => 0x200007CD + (rt.val * 2097152 + rs.val * 65536 + sa % 32 * 2048)
  | .precrqPhW rd rs rt => 0x200000ED + (rd.val * 2048 + rs.val * 65536 + rt.val * 2097152)
  | .precrqRsPhW rd rs rt => 0x2000012D + (rd.val * 2048 + rs.val * 65536 + rt.val * 2097152)
  | .precrquSQbPh rd rs rt => 0x2000016D + (rd.val * 2048 + rs.val * 65536 + rt.val * 2097152)
  | .preceqWPhl rt rs => 0x2000513F + (rt.val * 2097152 + rs.val * 65536)
  | .preceqWPhr rt rs => 0x2000613F + (rt.val * 2097152 + rs.val * 65536)
  | .precequPhQbl rt rs => 0x2000713F + (rt.val * 2097152 + rs.val * 65536)
  | .precequPhQbr rt rs => 0x2000913F + (rt.val * 2097152 + rs.val * 65536)
  | .precequPhQbla rt rs => 0x2000733F + (rt.val * 2097152 + rs.val * 65536)
  | .precequPhQbra rt rs => 0x2000933F + (rt.val * 2097152 + rs.val * 65536)
  | .preceuPhQbl rt rs => 0x2000B13F + (rt.val * 2097152 + rs.val * 65536)
  | .preceuPhQbr rt rs => 0x2000D13F + (rt.val * 2097152 + rs.val * 65536)
  | .preceuPhQbla rt rs => 0x2000B33F + (rt.val * 2097152 + rs.val * 65536)
  | .preceuPhQbra rt rs => 0x2000D33F + (rt.val * 2097152 + rs.val * 65536)
  | .shllQb rt rs sa => 0x2000087F + (rt.val * 2097152 + rs.val * 65536 + sa % 8 * 8192)
  | .shllvQb rd rt rs => 0x20000395 + (rd.val * 2048 + rt.val * 2097152 + rs.val * 65536)
  | .shllPh rt rs sa => 0x200003B5 + (rt.val * 2097152 + rs.val * 65536 + sa % 16 * 4096)
  | .shllvPh rd rt rs => 0x2000038D + (rd.val * 2048 + rt.val * 2097152 + rs.val * 65536)
  | .shllSPh rt rs sa => 0x20000BB5 + (rt.val * 2097152 + rs.val * 65536 + sa % 16 * 4096)
  | .shllvSPh rd rt rs => 0x2000078D + (rd.val * 2048 + rt.val * 2097152 + rs.val * 65536)
  | .shllSW rt rs sa => 0x200003F5 + (rt.val * 2097152 + rs.val * 65536 + sa % 32 * 2048)
  | .shllvSW rd rt rs => 0x200003D5 + (rd.val * 2048 + rt.val * 2097152 + rs.val * 65536)
  | .shrlQb rt rs sa => 0x2000187F + (rt.val * 2097152 + rs.val * 65536 + sa % 8 * 8192)
  | .shrlvQb rd rt rs => 0x20000355 + (rd.val * 2048 + rt.val * 2097152 + rs.val * 65536)
  | .shrlPh rt rs sa => 0x200003FF + (rt.val * 2097152 + rs.val * 65536 + sa % 16 * 4096)
  | .shrlvPh rd rt rs => 0x20000315 + (rd.val * 2048 + rt.val * 2097152 + rs.val * 65536)
  | .shraQb rt rs sa => 0x200001FF + (rt.val * 2097152 + rs.val * 65536 + sa % 8 * 8192)
  | .shraRQb rt rs sa => 0x200011FF + (rt.val * 2097152 + rs.val * 65536 + sa % 8 * 8192)
  | .shravQb rd rt rs => 0x200001CD + (rd.val * 2048 + rt.val * 2097152 + rs.val * 65536)
  | .shravRQb rd rt rs => 0x200005CD + (rd.val * 2048 + rt.val * 2097152 + rs.val * 65536)
  | .shraPh rt rs sa => 0x20000335 + (rt.val * 2097152 + rs.val * 65536 + sa % 16 * 4096)
  | .shravPh rd rt rs => 0x2000018D + (rd.val * 2048 + rt.val * 2097152 + rs.val * 65536)
  | .shraRPh rt rs sa => 0x20000735 + (rt.val * 2097152 + rs.val * 65536 + sa % 16 * 4096)
  | .shravRPh rd rt rs => 0x2000058D + (rd.val * 2048 + rt.val * 2097152 + rs.val * 65536)
  | .shraRW rt rs sa => 0x200002F5 + (rt.val * 2097152 + rs.val * 65536 + sa % 32 * 2048)
  | .shravRW rd rt rs => 0x200002D5 + (rd.val * 2048 + rt.val * 2097152 + rs.val * 65536)
  | .muleuSPhQbl rd rs rt => 0x20000095 + (rd.val * 2048 + rs.val * 65536 + rt.val * 2097152)
  | .muleuSPhQbr rd rs rt => 0x200000D5 + (rd.val * 2048 + rs.val * 65536 + rt.val * 2097152)
  | .mulqRsPh rd rs rt => 0x20000115 + (rd.val * 2048 + rs.val * 65536 + rt.val * 2097152)
  | .muleqSWPhl rd rs rt => 0x20000025 + (rd.val * 2048 + rs.val * 65536 + rt.val * 2097152)
  | .muleqSWPhr rd rs rt => 0x20000065 + (rd.val * 2048 + rs.val * 65536 + rt.val * 2097152)
  | .mulPh rd rs rt => 0x2000002D + (rd.val * 2048 + rs.val * 65536 + rt.val * 2097152)
  | .mulSPh rd rs rt => 0x2000042D + (rd.val * 2048 + rs.val * 65536 + rt.val * 2097152)
  | .mulqSPh rd rs rt => 0x20000155 + (rd.val * 2048 + rs.val * 65536 + rt.val * 2097152)
  | .mulqSW rd rs rt => 0x200001D5 + (rd.val * 2048 + rs.val * 65536 + rt.val * 2097152)
  | .mulqRsW rd rs rt => 0x20000195 + (rd.val * 2048 + rs.val * 65536 + rt.val * 2097152)
  | .dpauHQbl ac rs rt => 0x200020BF + (ac.val * 16384 + rs.val * 65536 + rt.val * 2097152)
  | .dpauHQbr ac rs rt => 0x200030BF + (ac.val * 16384 + rs.val * 65536 + rt.val * 2097152)
  | .dpsuHQbl ac rs rt => 0x200024BF + (ac.val * 16384 + rs.val * 65536 + rt.val * 2097152)
  | .dpsuHQbr ac rs rt => 0x200034BF + (ac.val * 16384 + rs.val * 65536 + rt.val * 2097152)
  | .dpaWPh ac rs rt => 0x200000BF + (ac.val * 16384 + rs.val * 65536 + rt.val * 2097152)
  | .dpaxWPh ac rs rt => 0x200010BF + (ac.val * 16384 + rs.val * 65536 + rt.val * 2097152)
  | .dpaqSWPh ac rs rt => 0x200002BF + (ac.val * 16384 + rs.val * 65536 + rt.val * 2097152)
  | .dpaqxSWPh ac rs rt => 0x200022BF + (ac.val * 16384 + rs.val * 65536 + rt.val * 2097152)
  | .dpaqxSaWPh ac rs rt => 0x200032BF + (ac.val * 16384 + rs.val * 65536 + rt.val * 2097152)
  | .dpsWPh ac rs rt => 0x200004BF + (ac.val * 16384 + rs.val * 65536 + rt.val * 2097152)
  | .dpsxWPh ac rs rt => 0x200014BF + (ac.val * 16384 + rs.val * 65536 + rt.val * 2097152)
  | .dpsqSWPh ac rs rt => 0x200006BF + (ac.val * 16384 + rs.val * 65536 + rt.val * 2097152)
  | .dpsqxSWPh ac rs rt => 0x200026BF + (ac.val * 16384 + rs.val * 65536 + rt.val * 2097152)
  | .dpsqxSaWPh ac rs rt => 0x200036BF + (ac.val * 16384 + rs.val * 65536 + rt.val * 2097152)
  | .mulsaqSWPh ac rs rt => 0x20003CBF + (ac.val * 16384 + rs.val * 65536 + rt.val * 2097152)
  | .dpaqSaLW ac rs rt => 0x200012BF + (ac.val * 16384 + rs.val * 65536 + rt.val * 2097152)
  | .dpsqSaLW ac rs rt => 0x200016BF + (ac.val * 16384 + rs.val * 65536 + rt.val * 2097152)
  | .maqSWPhl ac rs rt => 0x20001A7F + (ac.val * 16384 + rs.val * 65536 + rt.val * 2097152)
  | .maqSWPhr ac rs rt => 0x20000A7F + (ac.val * 16384 + rs.val * 65536 + rt.val * 2097152)
  | .maqSaWPhl ac rs rt => 0x20003A7F + (ac.val * 16384 + rs.val * 65536 + rt.val * 2097152)
  | .maqSaWPhr ac rs rt => 0x20002A7F + (ac.val * 16384 + rs.val * 65536 + rt.val * 2097152)
  | .mulsaWPh ac rs rt => 0x20002CBF + (ac.val * 16384 + rs.val * 65536 + rt.val * 2097152)
  | .madd ac rs rt => 0x20000ABF + (ac.val * 16384 + rs.val * 65536 + rt.val * 2097152)
  | .maddu ac rs rt => 0x20001ABF + (ac.val * 16384 + rs.val * 65536 + rt.val * 2097152)
  | .msub ac rs rt => 0x20002ABF + (ac.val * 16384 + rs.val * 65536 + rt.val * 2097152)
  | .msubu ac rs rt => 0x20003ABF + (ac.val * 16384 + rs.val * 65536 + rt.val * 2097152)
  | .mult ac rs rt => 0x20000CBF + (ac.val * 16384 + rs.val * 65536 + rt.val * 2097152)
  | .multu ac rs rt => 0x20001CBF + (ac.val * 16384 + rs.val * 65536 + rt.val * 2097152)
  | .bitrev rt rs => 0x2000313F + (rt.val * 2097152 + rs.val * 65536)
  | .insv rt rs => 0x2000413F + (rt.val * 2097152 + rs.val * 65536)
  | .replQb rt imm => 0x200005FF + (rt.val * 2097152 + imm % 256 * 8192)
  | .replvQb rt rs => 0x2000133F + (rt.val * 2097152 + rs.val * 65536)
  | .replPh rt imm => 0x2000003D + (rt.val * 2097152 + twos imm 10 * 2048)
  | .replvPh rt rs => 0x2000033F + (rt.val * 2097152 + rs.val * 65536)
  | .cmpuEqQb rs rt => 0x20000245 + (rs.val * 65536 + rt.val * 2097152)
  | .cmpuLtQb rs rt => 0x20000285 + (rs.val * 65536 + rt.val * 2097152)
  | .cmpuLeQb rs rt => 0x200002C5 + (rs.val * 65536 + rt.val * 2097152)
  | .cmpgduEqQb rd rs rt => 0x20000185 + (rd.val * 2048 + rs.val * 65536 + rt.val * 2097152)
  | .cmpgduLtQb rd rs rt => 0x200001C5 + (rd.val * 2048 + rs.val * 65536 + rt.val * 2097152)
  | .cmpgduLeQb rd rs rt => 0x20000205 + (rd.val * 2048 + rs.val * 65536 + rt.val * 2097152)
  | .cmpguEqQb rd rs rt => 0x200000C5 + (rd.val * 2048 + rs.val * 65536 + rt.val * 2097152)
  | .cmpguLtQb rd rs rt => 0x20000105 + (rd.val * 2048 + rs.val * 65536 + rt.val * 2097152)
  | .cmpguLeQb rd rs rt => 0x20000145 + (rd.val * 2048 + rs.val * 65536 + rt.val * 2097152)
  | .cmpEqPh rs rt => 0x20000005 + (rs.val * 65536 + rt.val * 2097152)
  | .cmpLtPh rs rt => 0x20000045 + (rs.val * 65536 + rt.val * 2097152)
  | .cmpLePh rs rt => 0x20000085 + (rs.val * 65536 + rt.val * 2097152)
  | .pickQb rd rs rt => 0x200001ED + (rd.val * 2048 + rs.val * 65536 + rt.val * 2097152)
  | .pickPh rd rs rt => 0x2000022D + (rd.val * 2048 + rs.val * 65536 + rt.val * 2097152)
  | .packrlPh rd rs rt => 0x200001AD + (rd.val * 2048 + rs.val * 65536 + rt.val * 2097152)
  | .extrW rt ac shift => 0x20000E7F + (rt.val * 2097152 + ac.val * 16384 + shift % 32 * 65536)
  | .extrRW rt ac shift => 0x20001E7F + (rt.val * 2097152 + ac.val * 16384 + shift % 32 * 65536)
  | .extrRsW rt ac shift => 0x20002E7F + (rt.val * 2097152 + ac.val * 16384 + shift % 32 * 65536)
  | .extrSH rt ac shift => 0x20003E7F + (rt.val * 2097152 + ac.val * 16384 + shift % 32 * 65536)
  | .extrvSH rt ac rs => 0x20003EBF + (rt.val * 2097152 + ac.val * 16384 + rs.val * 65536)
  | .extrvW rt ac rs => 0x20000EBF + (rt.val * 2097152 + ac.val * 16384 + rs.val * 65536)
  | .extrvRW rt ac rs => 0x20001EBF + (rt.val * 2097152 + ac.val * 16384 + rs.val * 65536)
  | .extrvRsW rt ac rs => 0x20002EBF + (rt.val * 2097152 + ac.val * 16384 + rs.val * 65536)
  | .extp rt ac size => 0x2000267F + (rt.val * 2097152 + ac.val * 16384 + size % 32 * 65536)
  | .extpv rt ac rs => 0x200028BF + (rt.val * 2097152 + ac.val * 16384 + rs.val * 65536)
  | .extpdp rt ac size => 0x2000367F + (rt.val * 2097152 + ac.val * 16384 + size % 32 * 65536)
  | .extpdpv rt ac rs => 0x200038BF + (rt.val * 2097152 + ac.val * 16384 + rs.val * 65536)
  | .shilo ac shift => 0x2000001D + (ac.val * 16384 + twos shift 6 * 65536)
  | .shilov ac rs => 0x2000127F + (ac.val * 16384 + rs.val * 65536)
  | .mthlip rs ac => 0x2000027F + (rs.val * 65536 + ac.val * 16384)
  | .mfhi rt ac => 0x2000007F + (rt.val * 2097152 + ac.val * 16384)
  | .mflo rt ac => 0x2000107F + (rt.val * 2097152 + ac.val * 16384)
  | .mthi rs ac => 0x2000207F + (rs.val * 65536 + ac.val * 16384)
  | .mtlo rs ac => 0x2000307F + (rs.val * 65536 + ac.val * 16384)
  | .wrdsp rt mask => 0x2000167F + (rt.val * 2097152 + mask % 128 * 16384)
  | .rddsp rt mask => 0x2000067F + (rt.val * 2097152 + mask % 128 * 16384)
  | .bposge32c offset => 0x88044000 + (branchField offset)

/-- The 32-bit word of an instruction. -/
def encode (i : Instr) : Word := BitVec.ofNat 32 (encodeNat i)

/-- The bits of an instruction's word that the decoder ignores: those printed x (30_encoding.md R84, `ignored_bits` of the table). -/
def Instr.ignoredBits (i : Instr) : Word :=
  match i with
  | .addqPh .. | .addqSPh .. | .adduQb .. | .adduSQb .. | .adduhQb .. | .adduhRQb ..
  | .adduPh .. | .adduSPh .. | .addqhPh .. | .addqhRPh .. | .addqhW .. | .addqhRW ..
  | .subqPh .. | .subqSPh .. | .subuQb .. | .subuSQb .. | .subuhQb .. | .subuhRQb ..
  | .subuPh .. | .subuSPh .. | .subqhPh .. | .subqhRPh .. | .subqhW .. | .subqhRW ..
  | .radduWQb .. | .absqSQb .. | .absqSPh .. | .absqSW .. | .precrSraPhW .. | .precrSraRPhW ..
  | .preceqWPhl .. | .preceqWPhr .. | .precequPhQbl .. | .precequPhQbr .. | .precequPhQbla .. | .precequPhQbra ..
  | .preceuPhQbl .. | .preceuPhQbr .. | .preceuPhQbla .. | .preceuPhQbra .. | .shllQb .. | .shllPh ..
  | .shllvPh .. | .shllSPh .. | .shllvSPh .. | .shrlQb .. | .shrlPh .. | .shraQb ..
  | .shraRQb .. | .shravQb .. | .shravRQb .. | .shravPh .. | .shravRPh .. | .mulPh ..
  | .mulSPh .. | .dpauHQbl .. | .dpauHQbr .. | .dpsuHQbl .. | .dpsuHQbr .. | .dpaWPh ..
  | .dpaxWPh .. | .dpaqSWPh .. | .dpaqxSWPh .. | .dpaqxSaWPh .. | .dpsWPh .. | .dpsxWPh ..
  | .dpsqSWPh .. | .dpsqxSWPh .. | .dpsqxSaWPh .. | .mulsaqSWPh .. | .dpaqSaLW .. | .dpsqSaLW ..
  | .maqSWPhl .. | .maqSWPhr .. | .maqSaWPhl .. | .maqSaWPhr .. | .mulsaWPh .. | .madd ..
  | .maddu .. | .msub .. | .msubu .. | .mult .. | .multu .. | .bitrev ..
  | .insv .. | .replvQb .. | .replvPh .. | .extrW .. | .extrRW .. | .extrRsW ..
  | .extrSH .. | .extrvSH .. | .extrvW .. | .extrvRW .. | .extrvRsW .. | .extp ..
  | .extpv .. | .extpdp .. | .extpdpv .. | .wrdsp .. | .rddsp .. => 0x00000000#32
  | .addqSW .. | .subqSW .. | .addsc .. | .addwc .. | .modsub .. | .precrQbPh ..
  | .precrqQbPh .. | .precrqPhW .. | .precrqRsPhW .. | .precrquSQbPh .. | .shllvQb .. | .shllSW ..
  | .shllvSW .. | .shrlvQb .. | .shrlvPh .. | .shraRW .. | .shravRW .. | .muleuSPhQbl ..
  | .muleuSPhQbr .. | .mulqRsPh .. | .muleqSWPhl .. | .muleqSWPhr .. | .mulqSPh .. | .mulqSW ..
  | .mulqRsW .. | .replPh .. | .cmpgduEqQb .. | .cmpgduLtQb .. | .cmpgduLeQb .. | .cmpguEqQb ..
  | .cmpguLtQb .. | .cmpguLeQb .. | .pickQb .. | .pickPh .. | .packrlPh .. => 0x00000400#32
  | .shraPh .. | .shraRPh .. => 0x00000800#32
  | .replQb .. => 0x00001000#32
  | .cmpuEqQb .. | .cmpuLtQb .. | .cmpuLeQb .. | .cmpEqPh .. | .cmpLtPh .. | .cmpLePh .. => 0x0000FC00#32
  | .shilo .. => 0x03C03C00#32
  | .shilov .. | .mthlip .. | .mthi .. | .mtlo .. | .bposge32c .. => 0x03E00000#32
  | .mfhi .. | .mflo .. => 0x001F0000#32

/-- The bytes of a unit of n bytes in the configured byte order, lowest address first (20_memory.md R61, R63). -/
def unitBytes (bigEndian : Bool) (n v : Nat) : List Byte :=
  let little := (List.range n).map fun k => BitVec.ofNat 8 (v / 256 ^ k)
  if bigEndian then little.reverse else little

/-- The number that the bytes of a unit denote (20_memory.md R61, R63). -/
def unitValue (bigEndian : Bool) (bytes : List Byte) : Nat :=
  (if bigEndian then bytes.reverse else bytes).foldr (fun b n => b.toNat + 256 * n) 0

/-- The four bytes of an instruction word at rising addresses: the inverse of `bytesToWord`. PRESUMED, log 9. -/
def wordToBytes (c : Config) (w : Word) : List Byte :=
  match c.fetchLayout with
  | .halfwords => unitBytes c.bigEndianMem 2 (fld w 16 16) ++ unitBytes c.bigEndianMem 2 (fld w 0 16)
  | .word => unitBytes c.bigEndianMem 4 w.toNat

/-- `cfg.fetch_word` (92_eei_decisions.md D18): the instruction word as drawn, from the four bytes at rising addresses. How it is
assembled is not in the source (20_memory.md R75). PRESUMED, log 9. -/
def bytesToWord (c : Config) (b0 b1 b2 b3 : Byte) : Word :=
  match c.fetchLayout with
  | .halfwords =>
    BitVec.ofNat 32 (unitValue c.bigEndianMem [b0, b1] * 65536 + unitValue c.bigEndianMem [b2, b3])
  | .word => BitVec.ofNat 32 (unitValue c.bigEndianMem [b0, b1, b2, b3])

/-- What the decoder makes of a list of bytes. -/
inductive Decoded where
  /-- An instruction and the bytes after it; every instruction is 4 bytes long (30_encoding.md R111). -/
  | instr (i : Instr) (rest : List Byte)
  /-- The word is no instruction of the DSP Module (30_encoding.md R105). -/
  | notDspModule (word : Word)
  /-- Fewer than four bytes are left. -/
  | truncated
  deriving DecidableEq, Repr

/-- Decode the first instruction of a list of bytes. Total; it rejects by name. -/
def decodeBytes (c : Config) (bytes : List Byte) : Decoded :=
  match bytes with
  | b0 :: b1 :: b2 :: b3 :: rest =>
    match decode (bytesToWord c b0 b1 b2 b3) with
    | some i => .instr i rest
    | none => .notDspModule (bytesToWord c b0 b1 b2 b3)
  | _ => .truncated

/-- The bytes of an instruction at rising addresses. -/
def encodeBytes (c : Config) (i : Instr) : List Byte := wordToBytes c (encode i)

/-- The instruction the decoder reads from a word numbered as spec/opcode_table.json numbers its bits, laid out in memory as this
hardware stores it. A table row has 32 bits; bits above `nbits` are 0. -/
def decodeTableWord (nbits w : Nat) : Option Instr :=
  match decodeBytes Config.thisHardware (wordToBytes Config.thisHardware (BitVec.ofNat 32 (w % 2 ^ nbits))) with
  | .instr i _ => some i
  | .notDspModule _ => none
  | .truncated => none

end Sys2Proof
end

