-- ==== Sys2Proof/Machine/State.lean ====
section
/-! DEFINITION. The state of the machine (INVENTORY.md, "## State"), the reasons a step can stop, and the state after reset. -/

namespace Sys2Proof.Machine

/-- Memory: the bytes that have been placed, addresses strictly rising (`Memory.wf`). A byte that is not listed has no value
(92_eei_decisions.md D12: memory is supplied at launch; log 8). -/
abbrev Memory := List Host.Cell

/-- The canonical form: addresses strictly rising, and inside the 2^32-byte space (10_state.md R52). An unlisted byte has no
value, so no entry can equal what an unlisted address reads as. -/
abbrev Memory.wf (m : Memory) : Prop :=
  m.Pairwise (fun x y => x.1 < y.1) ∧ ∀ c ∈ m, c.1 < 2 ^ 32

/-- Everything the spec gives the machine (10_state.md), and the model's own counter of free values. -/
structure State where
  /-- GPR[0] to GPR[31] (R30). Entry 0 is never written; `State.readGpr` reads it as 0 (R31). -/
  gpr : Vector Word 32
  /-- The address of the instruction (R33). -/
  pc : Word
  /-- HI[0] to HI[3] (R34). -/
  hi : Vector Word 4
  /-- LO[0] to LO[3] (R34). -/
  lo : Vector Word 4
  /-- DSPControl (R37). Its fields are read and written in Machine/Flags.lean. -/
  dspControl : Word
  /-- CP0 Status, of which only MX, bit 24, has a meaning here (R48). -/
  status : Word
  /-- `hilo_pending` (R56; 70_reset_and_hazards.md R446). -/
  hiloPending : Bool
  /-- `LLbit` (R53). No instruction of the module touches it (20_memory.md R72). -/
  llbit : Bool
  /-- `ISA Mode`, one bit (R53). No rule reads or writes it: this hardware has one ISA mode. -/
  isaMode : BitVec 1
  /-- `InstructionInBranchDelaySlot` (R53). No rule reads or writes it: no instruction in scope has a delay slot. -/
  inBranchDelaySlot : Bool
  /-- Config3, Config.AR and the implementation parameters, constant in a run (R47, R50). -/
  cfg : Config
  /-- The address space (R52). -/
  mem : Memory
  /-- THE MODEL'S OWN: how many free values have been drawn (00_scope.md R21; log 7). -/
  draws : Nat
  deriving DecidableEq, Repr

/-- The levels of the module an instruction may need (00_scope.md R2). -/
inductive Revision where
  | rev1
  | rev2
  | rev3
  deriving DecidableEq, Repr

/-- The two exceptions of the module (60_exceptions.md R400). -/
inductive ExceptionKind where
  /-- The revision the instruction needs is absent. -/
  | reservedInstruction
  /-- DSPDis: the module is present and Status.MX = 0. -/
  | dspDisabled
  deriving DecidableEq, Repr

/-- The terminal faults. -/
inductive Fault where
  /-- Raised by CheckDSP of every instruction when its revision is absent (60_exceptions.md R402). Carries the address of the
  instruction (R401, D10). Safe: the state is that before the instruction, which is what a handler would see; log 10. -/
  | reservedInstruction (pc : Word)
  /-- Raised by CheckDSP of every instruction when Status.MX = 0 (60_exceptions.md R402); Cause.ExcCode 26 (R401). Carries the
  address of the instruction. Safe, as `reservedInstruction`; log 10. -/
  | dspDisabled (pc : Word)
  /-- Raised by the fetch when a byte of the word at `pc` has never been placed in memory. The model's own stop; safe: no
  program is there (92_eei_decisions.md D12, D18; log 8). -/
  | fetchUnwritten (pc : Word)
  deriving DecidableEq, Repr

/-- The reasons to give an instruction word no meaning. -/
inductive Refusal where
  /-- Raised by an arm of `exec` whose instruction has no meaning yet. Safe. No arm does. -/
  | notModelled (mnemonic : String)
  /-- Raised by the step for a fetched word that matches no row (30_encoding.md R105, D22). Safe: most such words are baseline
  instructions, and the spec says the model refuses; log 12. -/
  | notDspModule (word : Word)
  /-- Raised where a rule says `UNPREDICTABLE operation` (00_scope.md R22): INSV with size 0 (45_bitmanip.md R312). Safe: the
  spec allows arbitrary exceptions there and says the model refuses; log 13. -/
  | unpredictableOperation (mnemonic : String)
  deriving DecidableEq, Repr

/-- The answer of a step or of a meaning. -/
abbrev Out := Host.Outcome State Fault Refusal

/-- The machine right after reset (10_state.md R54; 70_reset_and_hazards.md R440, R441). DSPControl = 0, GPR[0] = 0,
hilo_pending = 0 and the presence bits are the spec's; GPR[1..31] and the accumulators are opaque launch values, never 0
(DESIGN CHOICE, logs 1, 2); pc, Status, LLbit, ISA Mode, the delay-slot bit and the counter are
DESIGN CHOICE (logs 3, 4, 6, 29, 7). Memory lists nothing. -/
def State.reset : State where
  gpr := #v[0#32, Config.launchGpr 1, Config.launchGpr 2, Config.launchGpr 3, Config.launchGpr 4, Config.launchGpr 5,
    Config.launchGpr 6, Config.launchGpr 7, Config.launchGpr 8, Config.launchGpr 9, Config.launchGpr 10, Config.launchGpr 11,
    Config.launchGpr 12, Config.launchGpr 13, Config.launchGpr 14, Config.launchGpr 15, Config.launchGpr 16,
    Config.launchGpr 17, Config.launchGpr 18, Config.launchGpr 19, Config.launchGpr 20, Config.launchGpr 21,
    Config.launchGpr 22, Config.launchGpr 23, Config.launchGpr 24, Config.launchGpr 25, Config.launchGpr 26,
    Config.launchGpr 27, Config.launchGpr 28, Config.launchGpr 29, Config.launchGpr 30, Config.launchGpr 31]
  pc := 0#32
  hi := #v[Config.launchHi 0, Config.launchHi 1, Config.launchHi 2, Config.launchHi 3]
  lo := #v[Config.launchLo 0, Config.launchLo 1, Config.launchLo 2, Config.launchLo 3]
  dspControl := 0#32
  status := 0x01000000#32
  hiloPending := false
  llbit := false
  isaMode := 0#1
  inBranchDelaySlot := false
  cfg := Config.thisHardware
  mem := []
  draws := 0

end Sys2Proof.Machine
end

