-- ==== Sys2Proof/Machine/Ops.lean ====
section
/-! DEFINITION. The named operations over memory, registers and accumulators, the fetch, the free values, the access check and
raising an exception. -/

namespace Sys2Proof.Machine

/-! ## Memory -/

/-- One byte of memory; `none` where nothing was placed. -/
def Memory.read : Memory → Nat → Option Byte
  | [], _ => none
  | c :: m, a => if c.1 = a then some c.2 else Memory.read m a

/-- Write one byte, keeping the addresses strictly rising. -/
def Memory.write : Memory → Nat → Byte → Memory
  | [], a, b => [(a, b)]
  | c :: m, a, b =>
    if a < c.1 then (a, b) :: c :: m
    else if a = c.1 then (a, b) :: m
    else c :: Memory.write m a b

/-- The address n bytes after `a`: addresses are 32 bits and wrap (10_state.md R33, R52; D13). -/
def byteAddr (a : Word) (n : Nat) : Nat := (a + BitVec.ofNat 32 n).toNat

/-- The `n` bytes at rising addresses from `a`; `none` if one of them has no value. -/
def Memory.readBytes (m : Memory) (a : Word) : Nat → Option (List Byte)
  | 0 => some []
  | n + 1 =>
    match Memory.read m a.toNat, Memory.readBytes m (a + 1#32) n with
    | some b, some bs => some (b :: bs)
    | _, _ => none

/-- Write bytes at rising addresses from `a`. -/
def Memory.writeBytes (m : Memory) (a : Word) : List Byte → Memory
  | [] => m
  | b :: bs => Memory.writeBytes (Memory.write m a.toNat b) (a + 1#32) bs

/-- `MemRead(addr, n)` (20_memory.md R62, R63), as a number. No instruction of the module uses it. -/
def State.memRead (s : State) (a : Word) (n : Nat) : Option Nat :=
  (Memory.readBytes s.mem a n).map (unitValue s.cfg.bigEndianMem)

/-- `MemWrite(addr, n, v)` (20_memory.md R62, R63). No instruction of the module uses it. -/
def State.memWrite (s : State) (a : Word) (n v : Nat) : State :=
  { s with mem := Memory.writeBytes s.mem a (unitBytes s.cfg.bigEndianMem n v) }

/-- `instruction_fetch(PC)` (20_memory.md R75): the word at pc, `none` if a byte of it was never placed (log 8). All 32 bits of pc
count and no alignment is asked (10_state.md R33; log 23). -/
def State.fetchWord (s : State) : Option Word :=
  match Memory.readBytes s.mem s.pc 4 with
  | some [b0, b1, b2, b3] => some (bytesToWord s.cfg b0 b1 b2 b3)
  | _ => none

/-- Place an instruction word at pc, in the bytes `State.fetchWord` reads (log 24). -/
def State.placeWord (s : State) (w : Word) : State :=
  { s with mem := Memory.writeBytes s.mem s.pc (wordToBytes s.cfg w) }

/-! ## Registers -/

/-- `GPR[r]`: register 0 reads 0 (10_state.md R31). -/
def State.readGpr (s : State) (r : Reg) : Word := if r = 0 then 0#32 else s.gpr.get r

/-- `GPR[r] <- v`: a write to register 0 is discarded (10_state.md R31). -/
def State.writeGpr (s : State) (r : Reg) (v : Word) : State :=
  if r = 0 then s else { s with gpr := s.gpr.set r v }

/-- `HI[a] <- v` (00_scope.md R15). -/
def State.writeHi (s : State) (a : Acc) (v : Word) : State := { s with hi := s.hi.set a v }

/-- `LO[a] <- v` (00_scope.md R15). -/
def State.writeLo (s : State) (a : Acc) (v : Word) : State := { s with lo := s.lo.set a v }

/-- `HI[a]`. -/
def State.readHi (s : State) (a : Acc) : Word := s.hi.get a

/-- `LO[a]`. -/
def State.readLo (s : State) (a : Acc) : Word := s.lo.get a

/-- `ac[a]`, the 64-bit value `HI[a] || LO[a]` (10_state.md R34). -/
def State.acc (s : State) (a : Acc) : DWord := s.readHi a ++ s.readLo a

/-- `ac[a] <- v`: HI[a] takes v[63:32] and LO[a] v[31:0] (00_scope.md R15). -/
def State.writeAcc (s : State) (a : Acc) (v : DWord) : State :=
  (s.writeHi a (v.extractLsb' 32 32)).writeLo a (v.extractLsb' 0 32)

/-- `hilo_pending <- b` if the accumulator is ac0, the only one it is about (70_reset_and_hazards.md R446). -/
def State.setPending (s : State) (a : Acc) (b : Bool) : State :=
  if a = 0 then { s with hiloPending := b } else s

/-! ## Free values (00_scope.md R21; logs 7 and 14) -/

/-- One free value has been used. -/
def State.nextDraw (s : State) : State := { s with draws := s.draws + 1 }

/-- `GPR[r] <- UNPREDICTABLE(32)`. -/
def State.writeGprFree (s : State) (r : Reg) : State := (s.writeGpr r (Config.freeWord s.draws)).nextDraw

/-- `HI[a] <- UNPREDICTABLE(32)`. -/
def State.writeHiFree (s : State) (a : Acc) : State := (s.writeHi a (Config.freeWord s.draws)).nextDraw

/-- `LO[a] <- UNPREDICTABLE(32)`. -/
def State.writeLoFree (s : State) (a : Acc) : State := (s.writeLo a (Config.freeWord s.draws)).nextDraw

/-- `HI[0] <- UNPREDICTABLE(32); LO[0] <- UNPREDICTABLE(32)`, two separate draws (43_multiply_gpr.md R240(d)). -/
def State.clobberAc0 (s : State) : State := (s.writeHiFree 0).writeLoFree 0

/-! ## The access check and exceptions (60_exceptions.md) -/

/-- Status.MX, bit 24 (10_state.md R48). -/
def State.mx (s : State) : Bool := s.status.getLsbD 24

/-- The presence test of `CheckDSP(rev)` (60_exceptions.md R402). Rev3 is present exactly when DSPP = DSP2P = 1 (D2; log 17). -/
def Config.present (c : Config) (rev : Revision) : Bool :=
  match rev with
  | .rev1 => c.dspp
  | .rev2 => c.dsp2p && c.dspp
  | .rev3 => c.dspp && c.dsp2p

/-- `CheckDSP(rev)` (60_exceptions.md R402): which exception it raises, the presence test first. -/
def State.checkDSP (s : State) (rev : Revision) : Option ExceptionKind :=
  if Config.present s.cfg rev = false then some .reservedInstruction
  else if s.mx = false then some .dspDisabled
  else none

/-- `raise k`, the taking of an exception: the run ends with the fault that names the exception and the address of the
instruction, all state as it was before it (60_exceptions.md R401, R410; D10; log 10). There is no return (R411). -/
def State.raise (s : State) (k : ExceptionKind) : Out :=
  match k with
  | .reservedInstruction => .fault (.reservedInstruction s.pc)
  | .dspDisabled => .fault (.dspDisabled s.pc)

/-- The Cause.ExcCode an exception records: 26 for DSPDis; the code of Reserved Instruction is not in the source
(60_exceptions.md R401; 10_state.md R49). -/
def ExceptionKind.excCode (k : ExceptionKind) : Option Nat :=
  match k with
  | .dspDisabled => some 26
  | .reservedInstruction => none

/-- An instruction's Operation behind its access check, the first thing every instruction does (60_exceptions.md R402). -/
def State.guarded (s : State) (rev : Revision) (body : Out) : Out :=
  match s.checkDSP rev with
  | some k => s.raise k
  | none => body

/-- `pc <- pc + 4`, modulo 2^32 (10_state.md R33; 30_encoding.md R111; D13). -/
def State.advance (s : State) : State := { s with pc := s.pc + 4#32 }

/-- The end of every instruction that assigns no pc. -/
def State.retire (s : State) : Out := .next s.advance

end Sys2Proof.Machine
end

