-- ==== Sys2Proof/Machine/Flags.lean ====
section
/-! DEFINITION. DSPControl: its fields, their reads and writes, and the sticky ouflag bits (10_state.md R37 to R46). -/

namespace Sys2Proof.Machine

/-- `w[lo+n-1:lo] <- v`, every other bit kept. -/
def setField (w : Word) (lo : Nat) {n : Nat} (v : BitVec n) : Word :=
  (w &&& ~~~((BitVec.allOnes n).setWidth 32 <<< lo)) ||| (v.setWidth 32 <<< lo)

/-- The reserved bits 31:28, 15 and 6, which read 0 and ignore writes (10_state.md R38; D7). -/
def reservedMask : Word := 0xF0008040#32

/-- DSPControl[5:0] (10_state.md R45). -/
def State.pos (s : State) : BitVec 6 := s.dspControl.extractLsb' 0 6

/-- DSPControl[12:7] (10_state.md R44). -/
def State.scount (s : State) : BitVec 6 := s.dspControl.extractLsb' 7 6

/-- DSPControl[13], the carry (10_state.md R43). -/
def State.carry (s : State) : BitVec 1 := s.dspControl.extractLsb' 13 1

/-- DSPControl[14], the Extract Fail Indicator (10_state.md R42). -/
def State.efi (s : State) : BitVec 1 := s.dspControl.extractLsb' 14 1

/-- DSPControl[23:16] (10_state.md R40). -/
def State.ouflag (s : State) : BitVec 8 := s.dspControl.extractLsb' 16 8

/-- DSPControl[27:24] (10_state.md R39). -/
def State.ccond (s : State) : BitVec 4 := s.dspControl.extractLsb' 24 4

/-- `DSPControl.pos <- v`. -/
def State.setPos (s : State) (v : BitVec 6) : State := { s with dspControl := setField s.dspControl 0 v }

/-- `DSPControl.scount <- v`. -/
def State.setScount (s : State) (v : BitVec 6) : State := { s with dspControl := setField s.dspControl 7 v }

/-- `DSPControl.c <- v`. -/
def State.setCarry (s : State) (v : BitVec 1) : State := { s with dspControl := setField s.dspControl 13 v }

/-- `DSPControl.EFI <- v`. -/
def State.setEfi (s : State) (v : BitVec 1) : State := { s with dspControl := setField s.dspControl 14 v }

/-- `DSPControl.ouflag <- v`; only WRDSP writes the whole field (10_state.md R40). -/
def State.setOuflag (s : State) (v : BitVec 8) : State := { s with dspControl := setField s.dspControl 16 v }

/-- `DSPControl.ccond <- v`. -/
def State.setCcond (s : State) (v : BitVec 4) : State := { s with dspControl := setField s.dspControl 24 v }

/-- `if b then DSPControl[bit] <- 1`: the sticky ouflag bits are set and never cleared (10_state.md R40). -/
def State.flagIf (s : State) (bit : Nat) (b : Bool) : State :=
  if b then { s with dspControl := setField s.dspControl bit 1#1 } else s

/-- `DSPControl[25:24] <- v; DSPControl[27:26] <- UNPREDICTABLE(2)` (46_compare_pick.md R320(d)). Free, log 14. -/
def State.setCcondPh (s : State) (v : BitVec 2) : State :=
  (s.setCcond (Config.freeBits2 s.draws ++ v)).nextDraw

/-- `DSPControl[5:0] <- UNPREDICTABLE(6)` (47_acc_dspcontrol.md R376). Free, log 14. -/
def State.setPosFree (s : State) : State := (s.setPos (Config.freeBits6 s.draws)).nextDraw

end Sys2Proof.Machine
end

