-- ==== Sys2Proof/Machine/Operands.lean ====
section
/-! DEFINITION. The operand forms: lanes of a register (00_scope.md R29), applying a lane function to each of them, shift amounts taken
from a register (30_encoding.md R103), and the shapes of instruction that read registers and write one destination. -/

namespace Sys2Proof.Machine

/-- A result with "it overflowed or saturated". -/
abbrev Flagged (n : Nat) := BitVec n × Bool

/-- The left halfword, `v[31:16]`. -/
def phl (v : Word) : Half := v.extractLsb' 16 16

/-- The right halfword, `v[15:0]`. -/
def phr (v : Word) : Half := v.extractLsb' 0 16

/-- `v[31:24]`, the left-most byte. -/
def qb3 (v : Word) : Byte := v.extractLsb' 24 8

/-- `v[23:16]`. -/
def qb2 (v : Word) : Byte := v.extractLsb' 16 8

/-- `v[15:8]`. -/
def qb1 (v : Word) : Byte := v.extractLsb' 8 8

/-- `v[7:0]`, the right-most byte. -/
def qb0 (v : Word) : Byte := v.extractLsb' 0 8

/-- `left || right`. -/
def joinPh (left right : Half) : Word := left ++ right

/-- `d || c || b || a`. -/
def joinQb (d c b a : Byte) : Word := d ++ c ++ b ++ a

/-- The PH lanes of two registers through a lane function; the flag is that of any lane (10_state.md R40). -/
def ph2 (f : Half → Half → Flagged 16) (x y : Word) : Flagged 32 :=
  let l := f (phl x) (phl y)
  let r := f (phr x) (phr y)
  (joinPh l.1 r.1, l.2 || r.2)

/-- The PH lanes of one register through a lane function. -/
def ph1 (f : Half → Flagged 16) (x : Word) : Flagged 32 :=
  let l := f (phl x)
  let r := f (phr x)
  (joinPh l.1 r.1, l.2 || r.2)

/-- The QB lanes of two registers through a lane function. -/
def qb2Lanes (f : Byte → Byte → Flagged 8) (x y : Word) : Flagged 32 :=
  let d := f (qb3 x) (qb3 y)
  let c := f (qb2 x) (qb2 y)
  let b := f (qb1 x) (qb1 y)
  let a := f (qb0 x) (qb0 y)
  (joinQb d.1 c.1 b.1 a.1, d.2 || c.2 || b.2 || a.2)

/-- The QB lanes of one register through a lane function. -/
def qb1Lanes (f : Byte → Flagged 8) (x : Word) : Flagged 32 :=
  let d := f (qb3 x)
  let c := f (qb2 x)
  let b := f (qb1 x)
  let a := f (qb0 x)
  (joinQb d.1 c.1 b.1 a.1, d.2 || c.2 || b.2 || a.2)

/-- The PH lanes of two registers, no flag. -/
def ph2Plain (f : Half → Half → Half) (x y : Word) : Word := joinPh (f (phl x) (phl y)) (f (phr x) (phr y))

/-- The PH lanes of one register, no flag. -/
def ph1Plain (f : Half → Half) (x : Word) : Word := joinPh (f (phl x)) (f (phr x))

/-- The QB lanes of two registers, no flag. -/
def qb2Plain (f : Byte → Byte → Byte) (x y : Word) : Word :=
  joinQb (f (qb3 x) (qb3 y)) (f (qb2 x) (qb2 y)) (f (qb1 x) (qb1 y)) (f (qb0 x) (qb0 y))

/-- The QB lanes of one register, no flag. -/
def qb1Plain (f : Byte → Byte) (x : Word) : Word := joinQb (f (qb3 x)) (f (qb2 x)) (f (qb1 x)) (f (qb0 x))

/-- A condition bit: 1 for true, 0 for false (46_compare_pick.md R320(c)). -/
def condBit (b : Bool) : BitVec 1 := BitVec.ofBool b

/-- The four condition bits of a byte comparison, left-most byte first (46_compare_pick.md R320(d)). -/
def condQb (f : Byte → Byte → Bool) (x y : Word) : BitVec 4 :=
  condBit (f (qb3 x) (qb3 y)) ++ condBit (f (qb2 x) (qb2 y)) ++ condBit (f (qb1 x) (qb1 y)) ++ condBit (f (qb0 x) (qb0 y))

/-- The two condition bits of a halfword comparison, left halfword first (46_compare_pick.md R320(d)). -/
def condPh (f : Half → Half → Bool) (x y : Word) : BitVec 2 :=
  condBit (f (phl x) (phl y)) ++ condBit (f (phr x) (phr y))

/-- The low `bits` bits of a register as a shift amount or size; "the remaining bits of rs are ignored" (30_encoding.md R103). -/
def amount (v : Word) (bits : Nat) : Nat := v.toNat % 2 ^ bits

/-- `rd <- f(rs, rt)` behind CheckDSP, no flag (40_arithmetic.md R120(b)). -/
def State.alu3 (s : State) (rev : Revision) (rd rs rt : Reg) (f : Word → Word → Word) : Out :=
  s.guarded rev (s.writeGpr rd (f (s.readGpr rs) (s.readGpr rt))).retire

/-- `rd <- f(rs, rt)` behind CheckDSP, setting one sticky ouflag bit if f says so (40_arithmetic.md R120(b), (c)). -/
def State.alu3F (s : State) (rev : Revision) (bit : Nat) (rd rs rt : Reg) (f : Word → Word → Flagged 32) : Out :=
  let r := f (s.readGpr rs) (s.readGpr rt)
  s.guarded rev ((s.flagIf bit r.2).writeGpr rd r.1).retire

/-- `rt <- f(rs)` behind CheckDSP, no flag. -/
def State.alu2 (s : State) (rev : Revision) (rt rs : Reg) (f : Word → Word) : Out :=
  s.guarded rev (s.writeGpr rt (f (s.readGpr rs))).retire

/-- `rt <- f(rs)` behind CheckDSP, setting one sticky ouflag bit if f says so. -/
def State.alu2F (s : State) (rev : Revision) (bit : Nat) (rt rs : Reg) (f : Word → Flagged 32) : Out :=
  let r := f (s.readGpr rs)
  s.guarded rev ((s.flagIf bit r.2).writeGpr rt r.1).retire

/-- `rd <- f(rs, rt)` of a GPR-destination multiply: ouflag bit 21, then ac0 becomes UNPREDICTABLE (43_multiply_gpr.md R240). -/
def State.mulGpr (s : State) (rev : Revision) (rd rs rt : Reg) (f : Word → Word → Flagged 32) : Out :=
  let r := f (s.readGpr rs) (s.readGpr rt)
  s.guarded rev (((s.flagIf 21 r.2).writeGpr rd r.1).clobberAc0).retire

/-- `ac <- f(ac, rs, rt)` behind CheckDSP, no flag (44_multiply_acc.md R260(b)). -/
def State.mac (s : State) (rev : Revision) (ac : Acc) (rs rt : Reg) (f : DWord → Word → Word → DWord) : Out :=
  s.guarded rev (s.writeAcc ac (f (s.acc ac) (s.readGpr rs) (s.readGpr rt))).retire

/-- `ac <- f(ac, rs, rt)` behind CheckDSP, setting ouflag bit 16 + ac if f says so (44_multiply_acc.md R260(b), (d)). -/
def State.macF (s : State) (rev : Revision) (ac : Acc) (rs rt : Reg) (f : DWord → Word → Word → Flagged 64) : Out :=
  let r := f (s.acc ac) (s.readGpr rs) (s.readGpr rt)
  s.guarded rev ((s.flagIf (16 + ac.val) r.2).writeAcc ac r.1).retire

end Sys2Proof.Machine
end

