-- ==== Sys2Proof/Machine/Lanes.lean ====
section
/-! DEFINITION. The arithmetic the rules share, on one lane: exact integers first, narrowed once at the end. The spec's (n+1)-bit
temporaries are these integers (40_arithmetic.md R121; 42_shift.md R223 to R229; 44_multiply_acc.md R261; 47_acc_dspcontrol.md R359). -/

namespace Sys2Proof.Machine

/-- 2^k as an integer. -/
def pow2 (k : Nat) : Int := ((2 ^ k : Nat) : Int)

/-- x is outside the signed range of n bits, -2^(n-1) .. 2^(n-1)-1 (40_arithmetic.md R121). -/
def outS (n : Nat) (x : Int) : Bool := decide (x < -pow2 (n - 1)) || decide (pow2 (n - 1) ≤ x)

/-- x is outside the unsigned range of n bits. -/
def outU (n : Nat) (x : Int) : Bool := decide (x < 0) || decide (pow2 n ≤ x)

/-- The low n bits of x, flagged if x is no signed n-bit number. -/
def wrapS (n : Nat) (x : Int) : Flagged n := (BitVec.ofInt n x, outS n x)

/-- x clamped to the signed range of n bits, flagged if it was outside (00_scope.md R28). -/
def satS (n : Nat) (x : Int) : Flagged n :=
  if pow2 (n - 1) ≤ x then (BitVec.intMax n, true)
  else if x < -pow2 (n - 1) then (BitVec.intMin n, true)
  else (BitVec.ofInt n x, false)

/-- The low n bits of x, flagged if x is no unsigned n-bit number. -/
def wrapU (n : Nat) (x : Int) : Flagged n := (BitVec.ofInt n x, outU n x)

/-- x clamped to the unsigned range of n bits, flagged if it was outside (00_scope.md R28). -/
def satU (n : Nat) (x : Int) : Flagged n :=
  if pow2 n ≤ x then (BitVec.allOnes n, true)
  else if x < 0 then (0#n, true)
  else (BitVec.ofInt n x, false)

/-- `unsigned(v)` as an integer (00_scope.md R15). -/
def uint {n : Nat} (v : BitVec n) : Int := (v.toNat : Int)

/-! ## Add, subtract, halve, absolute value (40_arithmetic.md R121) -/

/-- `addS`. -/
def addS {n : Nat} (a b : BitVec n) : Flagged n := wrapS n (a.toInt + b.toInt)

/-- `satAddS`. -/
def satAddS {n : Nat} (a b : BitVec n) : Flagged n := satS n (a.toInt + b.toInt)

/-- `subS`. -/
def subS {n : Nat} (a b : BitVec n) : Flagged n := wrapS n (a.toInt - b.toInt)

/-- `satSubS`. -/
def satSubS {n : Nat} (a b : BitVec n) : Flagged n := satS n (a.toInt - b.toInt)

/-- `addU`. -/
def addU {n : Nat} (a b : BitVec n) : Flagged n := wrapU n (uint a + uint b)

/-- `satAddU`. -/
def satAddU {n : Nat} (a b : BitVec n) : Flagged n := satU n (uint a + uint b)

/-- `subU`. -/
def subU {n : Nat} (a b : BitVec n) : Flagged n := wrapU n (uint a - uint b)

/-- `satSubU`. -/
def satSubU {n : Nat} (a b : BitVec n) : Flagged n := satU n (uint a - uint b)

/-- The rounding increment: 1 at the discarded bit, or nothing. -/
def rnd (r : Bool) : Int := if r then 1 else 0

/-- `halfAddS`: floor((signed(a) + signed(b) + r) / 2). -/
def halfAddS {n : Nat} (r : Bool) (a b : BitVec n) : BitVec n := BitVec.ofInt n ((a.toInt + b.toInt + rnd r) / 2)

/-- `halfSubS`; the one rounded result that does not fit wraps silently (R145). -/
def halfSubS {n : Nat} (r : Bool) (a b : BitVec n) : BitVec n := BitVec.ofInt n ((a.toInt - b.toInt + rnd r) / 2)

/-- `halfAddU`: floor((unsigned(a) + unsigned(b) + r) / 2). -/
def halfAddU {n : Nat} (r : Bool) (a b : BitVec n) : BitVec n := BitVec.ofInt n ((uint a + uint b + rnd r) / 2)

/-- `halfSubU`: floor((unsigned(a) - unsigned(b) + r) / 2) mod 2^n (R140, R141; rebuilt, log 21). -/
def halfSubU {n : Nat} (r : Bool) (a b : BitVec n) : BitVec n := BitVec.ofInt n ((uint a - uint b + rnd r) / 2)

/-- `satAbs`: only the most negative value saturates. -/
def satAbs {n : Nat} (a : BitVec n) : Flagged n := satS n (a.toInt.natAbs : Int)

/-! ## Shifts (42_shift.md R223 to R229) -/

/-- `shift8Left`: the byte overflow test is the unsigned one (R223; rebuilt, log 21). -/
def shift8Left (s : Nat) (a : Byte) : Flagged 8 := wrapU 8 (uint a * pow2 s)

/-- `shift16Left` (R224): the truncated shift, flagged if the signed product does not fit. -/
def shift16Left (s : Nat) (a : Half) : Flagged 16 := wrapS 16 (a.toInt * pow2 s)

/-- `sat16ShiftLeft` (R225). -/
def sat16ShiftLeft (s : Nat) (a : Half) : Flagged 16 := satS 16 (a.toInt * pow2 s)

/-- `sat32ShiftLeft` (R226; rebuilt, log 21). -/
def sat32ShiftLeft (s : Nat) (a : Word) : Flagged 32 := satS 32 (a.toInt * pow2 s)

/-- The logical right shift of a lane (R209 to R212, R227). -/
def shiftRightLogical {n : Nat} (s : Nat) (a : BitVec n) : BitVec n := a >>> s

/-- `shift16RightArithmetic`, `shift8RightArithmetic`: floor(signed(a) / 2^s) (R228). -/
def shiftRightArithmetic {n : Nat} (s : Nat) (a : BitVec n) : BitVec n := a.sshiftRight s

/-- floor((x + 2^(s-1)) / 2^s), and x itself for s = 0: the rounding of every right shift (R229; 41_precision.md R174). -/
def roundShift (s : Nat) (x : Int) : Int := if s = 0 then x else (x + pow2 (s - 1)) / pow2 s

/-- `rnd8ShiftRightArithmetic`, `rnd16…`, `rnd32…` (R229). -/
def rndShiftRightArithmetic {n : Nat} (s : Nat) (a : BitVec n) : BitVec n := BitVec.ofInt n (roundShift s a.toInt)

/-! ## Precision (41_precision.md) -/

/-- `trunc16Sat16Round` (R176): add 0x8000, saturate to Q31, keep the high half. -/
def trunc16Sat16Round (a : Word) : Flagged 16 :=
  let t := satS 32 (a.toInt + 0x8000)
  (phl t.1, t.2)

/-- `sat8ReducePrecision` (R177). -/
def sat8ReducePrecision (a : Half) : Flagged 8 :=
  if a.msb then (0#8, true)
  else if 0x7F80 < a.toNat then (0xFF#8, true)
  else (a.extractLsb' 7 8, false)

/-- `0 || byte || 0^7` (R180). -/
def expandQ (b : Byte) : Half := 0#1 ++ b ++ 0#7

/-- `0^8 || byte` (R184). -/
def expandU (b : Byte) : Half := 0#8 ++ b

/-- The low half of a word shifted right arithmetically (R173). -/
def sraLow (sa : Nat) (v : Word) : Half := (v.sshiftRight sa).extractLsb' 0 16

/-- The low half of a word shifted right arithmetically with rounding, not saturated (R174). -/
def sraLowRound (sa : Nat) (v : Word) : Half := BitVec.ofInt 16 (roundShift sa v.toInt)

/-! ## Products (43_multiply_gpr.md; 44_multiply_acc.md R261) -/

/-- `mulU8U16` (43 R251; rebuilt, log 21). -/
def mulU8U16 (a : Byte) (b : Half) : Flagged 16 := satU 16 (uint a * uint b)

/-- `multiplyQ15Q15` and `multiplyQ15Q15ouflag21`: the doubled product, -1.0 * -1.0 saturated (43 R244; 44 R261(a)). -/
def multiplyQ15Q15 (a b : Half) : Flagged 32 :=
  if a = 0x8000#16 ∧ b = 0x8000#16 then (0x7FFFFFFF#32, true)
  else (BitVec.ofInt 32 (2 * (a.toInt * b.toInt)), false)

/-- `sat16MultiplyQ15Q15` (43 R248): the high half of the doubled product, truncated. -/
def sat16MultiplyQ15Q15 (a b : Half) : Flagged 16 :=
  if a = 0x8000#16 ∧ b = 0x8000#16 then (0x7FFF#16, true)
  else (phl (BitVec.ofInt 32 (2 * (a.toInt * b.toInt))), false)

/-- `rndQ15MultiplyQ15Q15` (43 R243): the high half of the doubled product, rounded half up. -/
def rndQ15MultiplyQ15Q15 (a b : Half) : Flagged 16 :=
  if a = 0x8000#16 ∧ b = 0x8000#16 then (0x7FFF#16, true)
  else (phl (BitVec.ofInt 32 (2 * (a.toInt * b.toInt) + 0x8000)), false)

/-- The high word of the doubled Q31 product plus an increment, -1.0 * -1.0 saturated (43 R249, R250). -/
def multiplyQ31High (inc : Int) (a b : Word) : Flagged 32 :=
  if a = 0x80000000#32 ∧ b = 0x80000000#32 then (0x7FFFFFFF#32, true)
  else ((BitVec.ofInt 64 (2 * (a.toInt * b.toInt) + inc)).extractLsb' 32 32, false)

/-- `multiplyQ31Q31` (44 R261(b)). -/
def multiplyQ31Q31 (a b : Word) : Flagged 64 :=
  if a = 0x80000000#32 ∧ b = 0x80000000#32 then (0x7FFFFFFFFFFFFFFF#64, true)
  else (BitVec.ofInt 64 (2 * (a.toInt * b.toInt)), false)

/-- The signed product of two halfwords, exact. -/
def mulI (a b : Half) : Int := a.toInt * b.toInt

/-- The product of two unsigned bytes, exact (`multiplyU8U8`, 44 R261(c)). -/
def mulU (a b : Byte) : Int := uint a * uint b

/-- `sat32AccumulateQ31` (44 R261(d)): only bits 32 and 31 of the 64-bit sum decide. Its constants follow the prose (C25; log 27). -/
def sat32AccumulateQ31 (acc : DWord) (a : Word) : Flagged 32 :=
  let t := acc + a.signExtend 64
  if t.getLsbD 32 = t.getLsbD 31 then (t.extractLsb' 0 32, false)
  else if t.getLsbD 32 then (0x80000000#32, true)
  else (0x7FFFFFFF#32, true)

/-- `satAccQ31` (44 R261(e)): the accumulator clamped to the Q31 range. -/
def satAccQ31 (c : DWord) : Flagged 64 :=
  let r := satS 32 c.toInt
  (r.1.signExtend 64, r.2)

/-! ## Extraction and accumulator shifts (47_acc_dspcontrol.md) -/

/-- `shift65`, as the integer its 65 bits denote: the accumulator shifted right by n with one more bit kept below (R359(a)). -/
def shift65 (acc : DWord) (n : Nat) : Int := acc.toInt * 2 / pow2 n

/-- `ovf33`: the value above the kept bit does not fit 32 signed bits (R359(b)). -/
def ovf33 (t : Int) : Bool := outS 32 (t / 2)

/-- Whether EXTR sets ouflag bit 23: the shifted value or the rounded one does not fit (R351). -/
def extrFlag (t : Int) : Bool := ovf33 t || ovf33 (t + 1)

/-- The result of EXTR.W: `t[32:1]` (R351). -/
def extrW (acc : DWord) (n : Nat) : Flagged 32 :=
  let t := shift65 acc n
  (BitVec.ofInt 32 (t / 2), extrFlag t)

/-- The result of EXTR_R.W: `round65(t)[32:1]` (R352). -/
def extrRW (acc : DWord) (n : Nat) : Flagged 32 :=
  let t := shift65 acc n
  (BitVec.ofInt 32 ((t + 1) / 2), extrFlag t)

/-- The result of EXTR_RS.W: the rounded value clamped on both sides (R353; C34, log 27). -/
def extrRsW (acc : DWord) (n : Nat) : Flagged 32 :=
  let t := shift65 acc n
  ((satS 32 ((t + 1) / 2)).1, extrFlag t)

/-- The result of EXTR_S.H: the shifted value clamped to 16 bits and sign-extended (R354). -/
def extrSH (acc : DWord) (n : Nat) : Flagged 32 :=
  let r := satS 16 (acc.toInt / pow2 n)
  (r.1.signExtend 32, r.2)

/-- `zext_32(ac[pos : pos-size])` (R360); meant for size ≤ pos. -/
def extractBits (acc : DWord) (pos size : Nat) : Word :=
  BitVec.ofNat 32 (acc.toNat / 2 ^ (pos - size) % 2 ^ (size + 1))

/-- SHILO and SHILOV: a logical right shift by a positive amount, a left shift by a negative one (R370). -/
def shiftAcc (acc : DWord) (shift : Int) : DWord :=
  if 0 ≤ shift then acc >>> shift.toNat else acc <<< (-shift).toNat

end Sys2Proof.Machine
end

