-- ==== Sys2Proof/Machine/AccAccess.lean ====
section
/-! DEFINITION. Accumulator and DSPControl access: one meaning per instruction (47_acc_dspcontrol.md R350 to R385). -/

namespace Sys2Proof.Machine

/-- `GPR[rt] <- r` of an extraction with right shift, setting ouflag bit 23 if it says so (R350(g), R351 to R358). -/
def State.extr (s : State) (rev : Revision) (rt : Reg) (r : Flagged 32) : Out :=
  s.guarded rev ((s.flagIf 23 r.2).writeGpr rt r.1).retire

/-- The extraction of size + 1 bits from bit pos down (R360 to R364). It fails if pos < size: EFI is set, pos is kept and GPR[rt]
is a free value (log 14). A success clears EFI and, if `dec`, takes size + 1 from the 6-bit pos. -/
def State.extract (s : State) (rev : Revision) (rt : Reg) (ac : Acc) (size : Nat) (dec : Bool) : Out :=
  s.guarded rev
    (if size ≤ s.pos.toNat then
      let t := s.setEfi 0#1
      (if dec then t.setPos (s.pos - BitVec.ofNat 6 (size + 1)) else t).writeGpr rt (extractBits (s.acc ac) s.pos.toNat size)
     else (s.setEfi 1#1).writeGprFree rt).retire

/-- The bits of DSPControl that a WRDSP or RDDSP mask selects (R384, table). Mask bit 6 is ignored (D20; log 25). -/
def dspMask (mask : Nat) : Word :=
  (if mask.testBit 0 then 0x0000003F#32 else 0#32) ||| (if mask.testBit 1 then 0x00001F80#32 else 0#32) |||
  (if mask.testBit 2 then 0x00002000#32 else 0#32) ||| (if mask.testBit 3 then 0x00FF0000#32 else 0#32) |||
  (if mask.testBit 4 then 0x0F000000#32 else 0#32) ||| (if mask.testBit 5 then 0x00004000#32 else 0#32)

/-- The selected fields of DSPControl take the bits of v; every other bit is kept (R384). -/
def State.writeDsp (s : State) (mask : Nat) (v : Word) : State :=
  { s with dspControl := (s.dspControl &&& ~~~dspMask mask) ||| (v &&& dspMask mask) }

/-- The selected fields of DSPControl, zero elsewhere (R385). -/
def State.readDsp (s : State) (mask : Nat) : Word := s.dspControl &&& dspMask mask

/-- `SHILO ac, shift` (R370). -/
def execShilo (ac : Acc) (shift : Int) (s : State) : Out :=
  s.guarded .rev1 (s.writeAcc ac (shiftAcc (s.acc ac) shift)).retire

/-- `EXTPV rt, ac, rs` (R362). -/
def execExtpv (rt : Reg) (ac : Acc) (rs : Reg) (s : State) : Out :=
  s.extract .rev1 rt ac (amount (s.readGpr rs) 5) false

/-- `EXTPDPV rt, ac, rs` (R364): Operation rebuilt (D16; log 21). -/
def execExtpdpv (rt : Reg) (ac : Acc) (rs : Reg) (s : State) : Out :=
  s.extract .rev1 rt ac (amount (s.readGpr rs) 5) true

/-- `EXTRV.W rt, ac, rs` (R356). -/
def execExtrvW (rt : Reg) (ac : Acc) (rs : Reg) (s : State) : Out :=
  s.extr .rev1 rt (extrW (s.acc ac) (amount (s.readGpr rs) 5))

/-- `EXTRV_R.W rt, ac, rs` (R357). -/
def execExtrvRW (rt : Reg) (ac : Acc) (rs : Reg) (s : State) : Out :=
  s.extr .rev1 rt (extrRW (s.acc ac) (amount (s.readGpr rs) 5))

/-- `EXTRV_RS.W rt, ac, rs` (R358). -/
def execExtrvRsW (rt : Reg) (ac : Acc) (rs : Reg) (s : State) : Out :=
  s.extr .rev1 rt (extrRsW (s.acc ac) (amount (s.readGpr rs) 5))

/-- `EXTRV_S.H rt, ac, rs` (R355). -/
def execExtrvSH (rt : Reg) (ac : Acc) (rs : Reg) (s : State) : Out :=
  s.extr .rev1 rt (extrSH (s.acc ac) (amount (s.readGpr rs) 5))

/-- `MFHI rt, ac` (R377): ends the restricted interval of ac0 (70_reset_and_hazards.md R446; log 16). -/
def execMfhi (rt : Reg) (ac : Acc) (s : State) : Out :=
  s.guarded .rev1 ((s.writeGpr rt (s.readHi ac)).setPending ac false).retire

/-- `MFLO rt, ac` (R378): ends the restricted interval of ac0 (70_reset_and_hazards.md R446; log 16). -/
def execMflo (rt : Reg) (ac : Acc) (s : State) : Out :=
  s.guarded .rev1 ((s.writeGpr rt (s.readLo ac)).setPending ac false).retire

/-- `MTHI rs, ac` (R379): an unread computed result in ac0 makes LO[0] a free value (70_reset_and_hazards.md R446, D25; log 16). -/
def execMthi (rs : Reg) (ac : Acc) (s : State) : Out :=
  let t := s.writeHi ac (s.readGpr rs)
  s.guarded .rev1 (if ac = 0 ∧ s.hiloPending = true then t.writeLoFree 0 else t).retire

/-- `MTLO rs, ac` (R380): an unread computed result in ac0 makes HI[0] a free value (C37, D25; log 16). -/
def execMtlo (rs : Reg) (ac : Acc) (s : State) : Out :=
  let t := s.writeLo ac (s.readGpr rs)
  s.guarded .rev1 (if ac = 0 ∧ s.hiloPending = true then t.writeHiFree 0 else t).retire

/-- `MTHLIP rs, ac` (R376): pos > 32 leaves HI, LO and pos free (log 14); pos = 32 becomes 0 (D24; log 15); Operation rebuilt (log 21). -/
def execMthlip (rs : Reg) (ac : Acc) (s : State) : Out :=
  s.guarded .rev1
    (if 32 < s.pos.toNat then ((s.writeHiFree ac).writeLoFree ac).setPosFree
     else ((s.writeHi ac (s.readLo ac)).writeLo ac (s.readGpr rs)).setPos (s.pos + 32#6)).retire

/-- `SHILOV ac, rs` (R371). -/
def execShilov (ac : Acc) (rs : Reg) (s : State) : Out :=
  s.guarded .rev1 (s.writeAcc ac (shiftAcc (s.acc ac) (ofTwos (amount (s.readGpr rs) 6) 6))).retire

/-- `EXTP rt, ac, size` (R361). -/
def execExtp (rt : Reg) (ac : Acc) (size : Nat) (s : State) : Out := s.extract .rev1 rt ac size false

/-- `EXTPDP rt, ac, size` (R363). -/
def execExtpdp (rt : Reg) (ac : Acc) (size : Nat) (s : State) : Out := s.extract .rev1 rt ac size true

/-- `EXTR.W rt, ac, shift` (R351). -/
def execExtrW (rt : Reg) (ac : Acc) (shift : Nat) (s : State) : Out := s.extr .rev1 rt (extrW (s.acc ac) shift)

/-- `EXTR_R.W rt, ac, shift` (R352). -/
def execExtrRW (rt : Reg) (ac : Acc) (shift : Nat) (s : State) : Out := s.extr .rev1 rt (extrRW (s.acc ac) shift)

/-- `EXTR_RS.W rt, ac, shift` (R353). -/
def execExtrRsW (rt : Reg) (ac : Acc) (shift : Nat) (s : State) : Out := s.extr .rev1 rt (extrRsW (s.acc ac) shift)

/-- `EXTR_S.H rt, ac, shift` (R354): Operation rebuilt (D16; log 21). -/
def execExtrSH (rt : Reg) (ac : Acc) (shift : Nat) (s : State) : Out := s.extr .rev1 rt (extrSH (s.acc ac) shift)

/-- `RDDSP rt, mask` (R385). -/
def execRddsp (rt : Reg) (mask : Nat) (s : State) : Out :=
  s.guarded .rev1 (s.writeGpr rt (s.readDsp mask)).retire

/-- `WRDSP rt, mask` (R384). -/
def execWrdsp (rt : Reg) (mask : Nat) (s : State) : Out :=
  s.guarded .rev1 (s.writeDsp mask (s.readGpr rt)).retire

end Sys2Proof.Machine
end

