-- ==== Sys2Proof/Machine/Arithmetic.lean ====
section
/-! DEFINITION. Add, subtract, absolute value, MODSUB and RADDU: one meaning per instruction (40_arithmetic.md R120 to R154). -/

namespace Sys2Proof.Machine

/-- The result of MODSUB (R150). -/
def modularSubtract (x y : Word) : Word :=
  if x = 0#32 then (y.extractLsb' 8 16).setWidth 32 else x - (qb0 y).setWidth 32

/-- The result of RADDU.W.QB (R151): the sum of the four bytes, at most 1020. -/
def reduceAddU (x : Word) : Word := BitVec.ofInt 32 (uint (qb3 x) + uint (qb2 x) + uint (qb1 x) + uint (qb0 x))

/-- `ADDQ.PH rd, rs, rt` (R122). -/
def execAddqPh (rd rs rt : Reg) (s : State) : Out := s.alu3F .rev1 20 rd rs rt (ph2 addS)

/-- `ADDQ_S.PH rd, rs, rt` (R123). -/
def execAddqSPh (rd rs rt : Reg) (s : State) : Out := s.alu3F .rev1 20 rd rs rt (ph2 satAddS)

/-- `ADDQ_S.W rd, rs, rt` (R124). -/
def execAddqSW (rd rs rt : Reg) (s : State) : Out := s.alu3F .rev1 20 rd rs rt (satAddS)

/-- `ADDU.QB rd, rs, rt` (R125). -/
def execAdduQb (rd rs rt : Reg) (s : State) : Out := s.alu3F .rev1 20 rd rs rt (qb2Lanes addU)

/-- `ADDU_S.QB rd, rs, rt` (R126). -/
def execAdduSQb (rd rs rt : Reg) (s : State) : Out := s.alu3F .rev1 20 rd rs rt (qb2Lanes satAddU)

/-- `ADDUH.QB rd, rs, rt` (R127). -/
def execAdduhQb (rd rs rt : Reg) (s : State) : Out := s.alu3 .rev2 rd rs rt (qb2Plain (halfAddU false))

/-- `ADDUH_R.QB rd, rs, rt` (R128). -/
def execAdduhRQb (rd rs rt : Reg) (s : State) : Out := s.alu3 .rev2 rd rs rt (qb2Plain (halfAddU true))

/-- `ADDU.PH rd, rs, rt` (R129): the Operation section is rebuilt (D16; log 21). -/
def execAdduPh (rd rs rt : Reg) (s : State) : Out := s.alu3F .rev2 20 rd rs rt (ph2 addU)

/-- `ADDU_S.PH rd, rs, rt` (R130): the Operation section is rebuilt (D16; log 21). -/
def execAdduSPh (rd rs rt : Reg) (s : State) : Out := s.alu3F .rev2 20 rd rs rt (ph2 satAddU)

/-- `ADDQH.PH rd, rs, rt` (R131). -/
def execAddqhPh (rd rs rt : Reg) (s : State) : Out := s.alu3 .rev2 rd rs rt (ph2Plain (halfAddS false))

/-- `ADDQH_R.PH rd, rs, rt` (R132). -/
def execAddqhRPh (rd rs rt : Reg) (s : State) : Out := s.alu3 .rev2 rd rs rt (ph2Plain (halfAddS true))

/-- `ADDQH.W rd, rs, rt` (R133). -/
def execAddqhW (rd rs rt : Reg) (s : State) : Out := s.alu3 .rev2 rd rs rt (halfAddS false)

/-- `ADDQH_R.W rd, rs, rt` (R134). -/
def execAddqhRW (rd rs rt : Reg) (s : State) : Out := s.alu3 .rev2 rd rs rt (halfAddS true)

/-- `SUBQ.PH rd, rs, rt` (R135). -/
def execSubqPh (rd rs rt : Reg) (s : State) : Out := s.alu3F .rev1 20 rd rs rt (ph2 subS)

/-- `SUBQ_S.PH rd, rs, rt` (R136). -/
def execSubqSPh (rd rs rt : Reg) (s : State) : Out := s.alu3F .rev1 20 rd rs rt (ph2 satSubS)

/-- `SUBQ_S.W rd, rs, rt` (R137): the Operation section is rebuilt (D16; log 21). -/
def execSubqSW (rd rs rt : Reg) (s : State) : Out := s.alu3F .rev1 20 rd rs rt (satSubS)

/-- `SUBU.QB rd, rs, rt` (R138). -/
def execSubuQb (rd rs rt : Reg) (s : State) : Out := s.alu3F .rev1 20 rd rs rt (qb2Lanes subU)

/-- `SUBU_S.QB rd, rs, rt` (R139). -/
def execSubuSQb (rd rs rt : Reg) (s : State) : Out := s.alu3F .rev1 20 rd rs rt (qb2Lanes satSubU)

/-- `SUBUH.QB rd, rs, rt` (R140): the Operation section is rebuilt (D16; log 21). -/
def execSubuhQb (rd rs rt : Reg) (s : State) : Out := s.alu3 .rev2 rd rs rt (qb2Plain (halfSubU false))

/-- `SUBUH_R.QB rd, rs, rt` (R141): the Operation section is rebuilt (D16; log 21). -/
def execSubuhRQb (rd rs rt : Reg) (s : State) : Out := s.alu3 .rev2 rd rs rt (qb2Plain (halfSubU true))

/-- `SUBU.PH rd, rs, rt` (R142): rs minus rt, against the pseudocode of the source (C15; log 20). -/
def execSubuPh (rd rs rt : Reg) (s : State) : Out := s.alu3F .rev2 20 rd rs rt (ph2 subU)

/-- `SUBU_S.PH rd, rs, rt` (R143): rs minus rt, against the pseudocode of the source (C15; log 20). -/
def execSubuSPh (rd rs rt : Reg) (s : State) : Out := s.alu3F .rev2 20 rd rs rt (ph2 satSubU)

/-- `SUBQH.PH rd, rs, rt` (R144). -/
def execSubqhPh (rd rs rt : Reg) (s : State) : Out := s.alu3 .rev2 rd rs rt (ph2Plain (halfSubS false))

/-- `SUBQH_R.PH rd, rs, rt` (R145). -/
def execSubqhRPh (rd rs rt : Reg) (s : State) : Out := s.alu3 .rev2 rd rs rt (ph2Plain (halfSubS true))

/-- `SUBQH.W rd, rs, rt` (R146). -/
def execSubqhW (rd rs rt : Reg) (s : State) : Out := s.alu3 .rev2 rd rs rt (halfSubS false)

/-- `SUBQH_R.W rd, rs, rt` (R147). -/
def execSubqhRW (rd rs rt : Reg) (s : State) : Out := s.alu3 .rev2 rd rs rt (halfSubS true)

/-- `ADDSC rd, rs, rt` (R148): the carry out of the unsigned sum is written, 0 or 1, not only set. -/
def execAddsc (rd rs rt : Reg) (s : State) : Out :=
  let t := uint (s.readGpr rs) + uint (s.readGpr rt)
  s.guarded .rev1 ((s.setCarry (BitVec.ofBool (outU 32 t))).writeGpr rd (BitVec.ofInt 32 t)).retire

/-- `ADDWC rd, rs, rt` (R149): the Operation section is rebuilt (D16; log 21). -/
def execAddwc (rd rs rt : Reg) (s : State) : Out :=
  let r := wrapS 32 ((s.readGpr rs).toInt + (s.readGpr rt).toInt + uint s.carry)
  s.guarded .rev1 ((s.flagIf 20 r.2).writeGpr rd r.1).retire

/-- `MODSUB rd, rs, rt` (R150): bits 31:24 of rt are not used. -/
def execModsub (rd rs rt : Reg) (s : State) : Out := s.alu3 .rev1 rd rs rt (modularSubtract)

/-- `ABSQ_S.QB rt, rs` (R152). -/
def execAbsqSQb (rt rs : Reg) (s : State) : Out := s.alu2F .rev2 20 rt rs (qb1Lanes satAbs)

/-- `ABSQ_S.PH rt, rs` (R153). -/
def execAbsqSPh (rt rs : Reg) (s : State) : Out := s.alu2F .rev1 20 rt rs (ph1 satAbs)

/-- `ABSQ_S.W rt, rs` (R154). -/
def execAbsqSW (rt rs : Reg) (s : State) : Out := s.alu2F .rev1 20 rt rs (satAbs)

/-- `RADDU.W.QB rt, rs` (R151). -/
def execRadduWQb (rt rs : Reg) (s : State) : Out := s.alu2 .rev1 rt rs (reduceAddU)

end Sys2Proof.Machine
end

