-- ==== Sys2Proof/Machine/BitManip.lean ====
section
/-! DEFINITION. Bit manipulation: one meaning per instruction (45_bitmanip.md R310 to R316). -/

namespace Sys2Proof.Machine

/-- The right halfword with its bits in reverse order, zero-extended (R311). -/
def reverseHalf (x : Word) : Word := (phr x).reverse.setWidth 32

/-- Bits [pos+size-1:pos] of x replaced by the low bits of y, by the mask form of R312. -/
def insertField (x y : Word) (pos size : Nat) : Word :=
  let mask : Word := BitVec.ofNat 32 (2 ^ size - 1) <<< pos
  (x &&& ~~~mask) ||| ((y <<< pos) &&& mask)

/-- `REPL.PH rt, immediate` (R315). -/
def execReplPh (rt : Reg) (imm : Int) (s : State) : Out :=
  s.guarded .rev1 (s.writeGpr rt (joinPh (BitVec.ofInt 16 imm) (BitVec.ofInt 16 imm))).retire

/-- `BITREV rt, rs` (R311). -/
def execBitrev (rt rs : Reg) (s : State) : Out := s.alu2 .rev1 rt rs (reverseHalf)

/-- `INSV rt, rs` (R312): size 0 is an UNPREDICTABLE operation and refused (00_scope.md R22, D3; log 13); pos + size > 32 writes a free value (log 14). -/
def execInsv (rt rs : Reg) (s : State) : Out :=
  let pos := s.pos.toNat
  let size := s.scount.toNat
  s.guarded .rev1
    (if size = 0 then .refused (.unpredictableOperation "INSV")
     else if 32 < pos + size then (s.writeGprFree rt).retire
     else (s.writeGpr rt (insertField (s.readGpr rt) (s.readGpr rs) pos size)).retire)

/-- `REPLV.QB rt, rs` (R314). -/
def execReplvQb (rt rs : Reg) (s : State) : Out := s.alu2 .rev1 rt rs (fun x => joinQb (qb0 x) (qb0 x) (qb0 x) (qb0 x))

/-- `REPLV.PH rt, rs` (R316). -/
def execReplvPh (rt rs : Reg) (s : State) : Out := s.alu2 .rev1 rt rs (fun x => joinPh (phr x) (phr x))

/-- `REPL.QB rt, immediate` (R313). -/
def execReplQb (rt : Reg) (imm : Nat) (s : State) : Out :=
  s.guarded .rev1 (s.writeGpr rt (joinQb (BitVec.ofNat 8 imm) (BitVec.ofNat 8 imm) (BitVec.ofNat 8 imm) (BitVec.ofNat 8 imm))).retire

end Sys2Proof.Machine
end

