-- ==== Sys2Proof/Machine/Branch.lean ====
section
/-! DEFINITION. The branch on pos: one meaning per instruction (48_load_branch.md R396). -/

namespace Sys2Proof.Machine


/-- `BPOSGE32C offset` (R396): no delay slot; the sum wraps (D13, D14; logs 18, 23). -/
def execBposge32c (offset : Int) (s : State) : Out :=
  s.guarded .rev3 (.next { s with pc := if 32 ≤ s.pos.toNat then s.pc + 4#32 + BitVec.ofInt 32 offset else s.pc + 4#32 })

end Sys2Proof.Machine
end

