-- ==== Sys2Proof/Machine/ComparePick.lean ====
section
/-! DEFINITION. Compare, pick and pack: one meaning per instruction (46_compare_pick.md R320 to R338). -/

namespace Sys2Proof.Machine

/-- The bytes of x where the condition bit is 1, of y elsewhere (R333). -/
def pickBytes (cc : BitVec 4) (x y : Word) : Word :=
  joinQb (if cc.getLsbD 3 then qb3 x else qb3 y) (if cc.getLsbD 2 then qb2 x else qb2 y)
    (if cc.getLsbD 1 then qb1 x else qb1 y) (if cc.getLsbD 0 then qb0 x else qb0 y)

/-- The halfwords of x where the condition bit is 1, of y elsewhere (R334). -/
def pickHalves (cc : BitVec 4) (x y : Word) : Word :=
  joinPh (if cc.getLsbD 1 then phl x else phl y) (if cc.getLsbD 0 then phr x else phr y)

/-- `CMPGDU.EQ.QB rd, rs, rt` (R324). -/
def execCmpgduEqQb (rd rs rt : Reg) (s : State) : Out :=
  let cc := condQb (fun a b => decide (a = b)) (s.readGpr rs) (s.readGpr rt)
  s.guarded .rev2 ((s.setCcond cc).writeGpr rd (cc.setWidth 32)).retire

/-- `CMPGDU.LT.QB rd, rs, rt` (R325). -/
def execCmpgduLtQb (rd rs rt : Reg) (s : State) : Out :=
  let cc := condQb (fun a b => decide (a.toNat < b.toNat)) (s.readGpr rs) (s.readGpr rt)
  s.guarded .rev2 ((s.setCcond cc).writeGpr rd (cc.setWidth 32)).retire

/-- `CMPGDU.LE.QB rd, rs, rt` (R326). -/
def execCmpgduLeQb (rd rs rt : Reg) (s : State) : Out :=
  let cc := condQb (fun a b => decide (a.toNat ≤ b.toNat)) (s.readGpr rs) (s.readGpr rt)
  s.guarded .rev2 ((s.setCcond cc).writeGpr rd (cc.setWidth 32)).retire

/-- `CMPGU.EQ.QB rd, rs, rt` (R327). -/
def execCmpguEqQb (rd rs rt : Reg) (s : State) : Out :=
  s.alu3 .rev1 rd rs rt (fun x y => (condQb (fun a b => decide (a = b)) x y).setWidth 32)

/-- `CMPGU.LT.QB rd, rs, rt` (R328). -/
def execCmpguLtQb (rd rs rt : Reg) (s : State) : Out :=
  s.alu3 .rev1 rd rs rt (fun x y => (condQb (fun a b => decide (a.toNat < b.toNat)) x y).setWidth 32)

/-- `CMPGU.LE.QB rd, rs, rt` (R329). -/
def execCmpguLeQb (rd rs rt : Reg) (s : State) : Out :=
  s.alu3 .rev1 rd rs rt (fun x y => (condQb (fun a b => decide (a.toNat ≤ b.toNat)) x y).setWidth 32)

/-- `PICK.QB rd, rs, rt` (R333): Operation rebuilt (D16; log 21). -/
def execPickQb (rd rs rt : Reg) (s : State) : Out := s.alu3 .rev1 rd rs rt (pickBytes s.ccond)

/-- `PICK.PH rd, rs, rt` (R334). -/
def execPickPh (rd rs rt : Reg) (s : State) : Out := s.alu3 .rev1 rd rs rt (pickHalves s.ccond)

/-- `PACKRL.PH rd, rs, rt` (R338). -/
def execPackrlPh (rd rs rt : Reg) (s : State) : Out := s.alu3 .rev1 rd rs rt (fun x y => joinPh (phr x) (phl y))

/-- `CMPU.EQ.QB rs, rt` (R321). -/
def execCmpuEqQb (rs rt : Reg) (s : State) : Out :=
  s.guarded .rev1 (s.setCcond (condQb (fun a b => decide (a = b)) (s.readGpr rs) (s.readGpr rt))).retire

/-- `CMPU.LT.QB rs, rt` (R322). -/
def execCmpuLtQb (rs rt : Reg) (s : State) : Out :=
  s.guarded .rev1 (s.setCcond (condQb (fun a b => decide (a.toNat < b.toNat)) (s.readGpr rs) (s.readGpr rt))).retire

/-- `CMPU.LE.QB rs, rt` (R323). -/
def execCmpuLeQb (rs rt : Reg) (s : State) : Out :=
  s.guarded .rev1 (s.setCcond (condQb (fun a b => decide (a.toNat ≤ b.toNat)) (s.readGpr rs) (s.readGpr rt))).retire

/-- `CMP.EQ.PH rs, rt` (R330): ccond bits 27:26 become free values (log 14). -/
def execCmpEqPh (rs rt : Reg) (s : State) : Out :=
  s.guarded .rev1 (s.setCcondPh (condPh (fun a b => decide (a = b)) (s.readGpr rs) (s.readGpr rt))).retire

/-- `CMP.LT.PH rs, rt` (R331): ccond bits 27:26 become free values (log 14). -/
def execCmpLtPh (rs rt : Reg) (s : State) : Out :=
  s.guarded .rev1 (s.setCcondPh (condPh (fun a b => decide (a.toInt < b.toInt)) (s.readGpr rs) (s.readGpr rt))).retire

/-- `CMP.LE.PH rs, rt` (R332): ccond bits 27:26 become free values (log 14). -/
def execCmpLePh (rs rt : Reg) (s : State) : Out :=
  s.guarded .rev1 (s.setCcondPh (condPh (fun a b => decide (a.toInt ≤ b.toInt)) (s.readGpr rs) (s.readGpr rt))).retire

end Sys2Proof.Machine
end

