-- ==== Sys2Proof/Machine/MultiplyAcc.lean ====
section
/-! DEFINITION. Multiplies that write an accumulator: one meaning per instruction (44_multiply_acc.md R260 to R289). -/

namespace Sys2Proof.Machine


/-- `DPA.W.PH ac, rs, rt` (R266). -/
def execDpaWPh (ac : Acc) (rs rt : Reg) (s : State) : Out :=
  s.mac .rev2 ac rs rt fun c x y => c + BitVec.ofInt 64 (mulI (phl x) (phl y) + mulI (phr x) (phr y))

/-- `DPAX.W.PH ac, rs, rt` (R267). -/
def execDpaxWPh (ac : Acc) (rs rt : Reg) (s : State) : Out :=
  s.mac .rev2 ac rs rt fun c x y => c + BitVec.ofInt 64 (mulI (phl x) (phr y) + mulI (phr x) (phl y))

/-- `DPAU.H.QBL ac, rs, rt` (R262). -/
def execDpauHQbl (ac : Acc) (rs rt : Reg) (s : State) : Out :=
  s.mac .rev1 ac rs rt fun c x y => c + BitVec.ofInt 64 (mulU (qb3 x) (qb3 y) + mulU (qb2 x) (qb2 y))

/-- `DPAU.H.QBR ac, rs, rt` (R263). -/
def execDpauHQbr (ac : Acc) (rs rt : Reg) (s : State) : Out :=
  s.mac .rev1 ac rs rt fun c x y => c + BitVec.ofInt 64 (mulU (qb1 x) (qb1 y) + mulU (qb0 x) (qb0 y))

/-- `DPAQ_S.W.PH ac, rs, rt` (R268). -/
def execDpaqSWPh (ac : Acc) (rs rt : Reg) (s : State) : Out :=
  s.macF .rev1 ac rs rt fun c x y =>
    let b := multiplyQ15Q15 (phl x) (phl y)
    let a := multiplyQ15Q15 (phr x) (phr y)
    (c + (b.1.signExtend 64 + a.1.signExtend 64), b.2 || a.2)

/-- `DPAQ_SA.L.W ac, rs, rt` (R277). -/
def execDpaqSaLW (ac : Acc) (rs rt : Reg) (s : State) : Out :=
  s.macF .rev1 ac rs rt fun c x y =>
    let d := multiplyQ31Q31 x y
    let r := satS 64 (c.toInt + d.1.toInt)
    (r.1, d.2 || r.2)

/-- `DPAQX_S.W.PH ac, rs, rt` (R269). -/
def execDpaqxSWPh (ac : Acc) (rs rt : Reg) (s : State) : Out :=
  s.macF .rev2 ac rs rt fun c x y =>
    let b := multiplyQ15Q15 (phl x) (phr y)
    let a := multiplyQ15Q15 (phr x) (phl y)
    (c + (b.1.signExtend 64 + a.1.signExtend 64), b.2 || a.2)

/-- `DPAQX_SA.W.PH ac, rs, rt` (R270). -/
def execDpaqxSaWPh (ac : Acc) (rs rt : Reg) (s : State) : Out :=
  s.macF .rev2 ac rs rt fun c x y =>
    let b := multiplyQ15Q15 (phl x) (phr y)
    let a := multiplyQ15Q15 (phr x) (phl y)
    let r := satAccQ31 (c + (b.1.signExtend 64 + a.1.signExtend 64))
    (r.1, b.2 || a.2 || r.2)

/-- `DPS.W.PH ac, rs, rt` (R271). -/
def execDpsWPh (ac : Acc) (rs rt : Reg) (s : State) : Out :=
  s.mac .rev2 ac rs rt fun c x y => c - BitVec.ofInt 64 (mulI (phl x) (phl y) + mulI (phr x) (phr y))

/-- `DPSX.W.PH ac, rs, rt` (R272). -/
def execDpsxWPh (ac : Acc) (rs rt : Reg) (s : State) : Out :=
  s.mac .rev2 ac rs rt fun c x y => c - BitVec.ofInt 64 (mulI (phl x) (phr y) + mulI (phr x) (phl y))

/-- `DPSU.H.QBL ac, rs, rt` (R264). -/
def execDpsuHQbl (ac : Acc) (rs rt : Reg) (s : State) : Out :=
  s.mac .rev1 ac rs rt fun c x y => c - BitVec.ofInt 64 (mulU (qb3 x) (qb3 y) + mulU (qb2 x) (qb2 y))

/-- `DPSU.H.QBR ac, rs, rt` (R265). -/
def execDpsuHQbr (ac : Acc) (rs rt : Reg) (s : State) : Out :=
  s.mac .rev1 ac rs rt fun c x y => c - BitVec.ofInt 64 (mulU (qb1 x) (qb1 y) + mulU (qb0 x) (qb0 y))

/-- `DPSQ_S.W.PH ac, rs, rt` (R273). -/
def execDpsqSWPh (ac : Acc) (rs rt : Reg) (s : State) : Out :=
  s.macF .rev1 ac rs rt fun c x y =>
    let b := multiplyQ15Q15 (phl x) (phl y)
    let a := multiplyQ15Q15 (phr x) (phr y)
    (c - (b.1.signExtend 64 + a.1.signExtend 64), b.2 || a.2)

/-- `DPSQ_SA.L.W ac, rs, rt` (R278). -/
def execDpsqSaLW (ac : Acc) (rs rt : Reg) (s : State) : Out :=
  s.macF .rev1 ac rs rt fun c x y =>
    let d := multiplyQ31Q31 x y
    let r := satS 64 (c.toInt - d.1.toInt)
    (r.1, d.2 || r.2)

/-- `DPSQX_S.W.PH ac, rs, rt` (R274). -/
def execDpsqxSWPh (ac : Acc) (rs rt : Reg) (s : State) : Out :=
  s.macF .rev2 ac rs rt fun c x y =>
    let b := multiplyQ15Q15 (phl x) (phr y)
    let a := multiplyQ15Q15 (phr x) (phl y)
    (c - (b.1.signExtend 64 + a.1.signExtend 64), b.2 || a.2)

/-- `DPSQX_SA.W.PH ac, rs, rt` (R275). -/
def execDpsqxSaWPh (ac : Acc) (rs rt : Reg) (s : State) : Out :=
  s.macF .rev2 ac rs rt fun c x y =>
    let b := multiplyQ15Q15 (phl x) (phr y)
    let a := multiplyQ15Q15 (phr x) (phl y)
    let r := satAccQ31 (c - (b.1.signExtend 64 + a.1.signExtend 64))
    (r.1, b.2 || a.2 || r.2)

/-- `MADD ac, rs, rt` (R284): the check is unconditional (D17). -/
def execMadd (ac : Acc) (rs rt : Reg) (s : State) : Out :=
  s.mac .rev1 ac rs rt fun c x y => c + BitVec.ofInt 64 (x.toInt * y.toInt)

/-- `MADDU ac, rs, rt` (R285): the check is unconditional (D17). -/
def execMaddu (ac : Acc) (rs rt : Reg) (s : State) : Out :=
  s.mac .rev1 ac rs rt fun c x y => c + BitVec.ofInt 64 (uint x * uint y)

/-- `MSUB ac, rs, rt` (R286): the check is unconditional (D17). -/
def execMsub (ac : Acc) (rs rt : Reg) (s : State) : Out :=
  s.mac .rev1 ac rs rt fun c x y => c - BitVec.ofInt 64 (x.toInt * y.toInt)

/-- `MSUBU ac, rs, rt` (R287): the check is unconditional (D17). -/
def execMsubu (ac : Acc) (rs rt : Reg) (s : State) : Out :=
  s.mac .rev1 ac rs rt fun c x y => c - BitVec.ofInt 64 (uint x * uint y)

/-- `MULT ac, rs, rt` (R288): ac0 then holds an unread computed result (70_reset_and_hazards.md R446). -/
def execMult (ac : Acc) (rs rt : Reg) (s : State) : Out :=
  s.guarded .rev1 ((s.writeAcc ac (BitVec.ofInt 64 ((s.readGpr rs).toInt * (s.readGpr rt).toInt))).setPending ac true).retire

/-- `MULTU ac, rs, rt` (R289): ac0 then holds an unread computed result (70_reset_and_hazards.md R446). -/
def execMultu (ac : Acc) (rs rt : Reg) (s : State) : Out :=
  s.guarded .rev1 ((s.writeAcc ac (BitVec.ofInt 64 (uint (s.readGpr rs) * uint (s.readGpr rt)))).setPending ac true).retire

/-- `MULSA.W.PH ac, rs, rt` (R283). -/
def execMulsaWPh (ac : Acc) (rs rt : Reg) (s : State) : Out :=
  s.mac .rev2 ac rs rt fun c x y => c + BitVec.ofInt 64 (mulI (phl x) (phl y) - mulI (phr x) (phr y))

/-- `MULSAQ_S.W.PH ac, rs, rt` (R276). -/
def execMulsaqSWPh (ac : Acc) (rs rt : Reg) (s : State) : Out :=
  s.macF .rev1 ac rs rt fun c x y =>
    let b := multiplyQ15Q15 (phl x) (phl y)
    let a := multiplyQ15Q15 (phr x) (phr y)
    (c + (b.1.signExtend 64 - a.1.signExtend 64), b.2 || a.2)

/-- `MAQ_S.W.PHR ac, rs, rt` (R280). -/
def execMaqSWPhr (ac : Acc) (rs rt : Reg) (s : State) : Out :=
  s.macF .rev1 ac rs rt fun c x y =>
    let a := multiplyQ15Q15 (phr x) (phr y)
    (c + a.1.signExtend 64, a.2)

/-- `MAQ_S.W.PHL ac, rs, rt` (R279). -/
def execMaqSWPhl (ac : Acc) (rs rt : Reg) (s : State) : Out :=
  s.macF .rev1 ac rs rt fun c x y =>
    let a := multiplyQ15Q15 (phl x) (phl y)
    (c + a.1.signExtend 64, a.2)

/-- `MAQ_SA.W.PHR ac, rs, rt` (R282). -/
def execMaqSaWPhr (ac : Acc) (rs rt : Reg) (s : State) : Out :=
  s.macF .rev1 ac rs rt fun c x y =>
    let a := multiplyQ15Q15 (phr x) (phr y)
    let r := sat32AccumulateQ31 c a.1
    (r.1.signExtend 64, a.2 || r.2)

/-- `MAQ_SA.W.PHL ac, rs, rt` (R281). -/
def execMaqSaWPhl (ac : Acc) (rs rt : Reg) (s : State) : Out :=
  s.macF .rev1 ac rs rt fun c x y =>
    let a := multiplyQ15Q15 (phl x) (phl y)
    let r := sat32AccumulateQ31 c a.1
    (r.1.signExtend 64, a.2 || r.2)

end Sys2Proof.Machine
end

