-- ==== Sys2Proof/Machine/MultiplyGpr.lean ====
section
/-! DEFINITION. Multiplies that write a GPR and leave ac0 free: one meaning per instruction (43_multiply_gpr.md R240 to R251). -/

namespace Sys2Proof.Machine


/-- `MULEU_S.PH.QBL rd, rs, rt` (R241): Operation rebuilt (D16; log 21). -/
def execMuleuSPhQbl (rd rs rt : Reg) (s : State) : Out :=
  s.mulGpr .rev1 rd rs rt (fun x y =>
    let b := mulU8U16 (qb3 x) (phl y)
    let a := mulU8U16 (qb2 x) (phr y)
    (joinPh b.1 a.1, b.2 || a.2))

/-- `MULEU_S.PH.QBR rd, rs, rt` (R242): Operation rebuilt (D16; log 21). -/
def execMuleuSPhQbr (rd rs rt : Reg) (s : State) : Out :=
  s.mulGpr .rev1 rd rs rt (fun x y =>
    let b := mulU8U16 (qb1 x) (phl y)
    let a := mulU8U16 (qb0 x) (phr y)
    (joinPh b.1 a.1, b.2 || a.2))

/-- `MULQ_RS.PH rd, rs, rt` (R243). -/
def execMulqRsPh (rd rs rt : Reg) (s : State) : Out := s.mulGpr .rev1 rd rs rt (ph2 rndQ15MultiplyQ15Q15)

/-- `MULEQ_S.W.PHL rd, rs, rt` (R244). -/
def execMuleqSWPhl (rd rs rt : Reg) (s : State) : Out :=
  s.mulGpr .rev1 rd rs rt (fun x y => multiplyQ15Q15 (phl x) (phl y))

/-- `MULEQ_S.W.PHR rd, rs, rt` (R245). -/
def execMuleqSWPhr (rd rs rt : Reg) (s : State) : Out :=
  s.mulGpr .rev1 rd rs rt (fun x y => multiplyQ15Q15 (phr x) (phr y))

/-- `MUL.PH rd, rs, rt` (R246): the flag is set in this variant too (C23; log 27); head of the Operation rebuilt (D16; log 21). -/
def execMulPh (rd rs rt : Reg) (s : State) : Out := s.mulGpr .rev2 rd rs rt (ph2 fun a b => wrapS 16 (mulI a b))

/-- `MUL_S.PH rd, rs, rt` (R247): Operation rebuilt (D16; log 21). -/
def execMulSPh (rd rs rt : Reg) (s : State) : Out := s.mulGpr .rev2 rd rs rt (ph2 fun a b => satS 16 (mulI a b))

/-- `MULQ_S.PH rd, rs, rt` (R248). -/
def execMulqSPh (rd rs rt : Reg) (s : State) : Out := s.mulGpr .rev2 rd rs rt (ph2 sat16MultiplyQ15Q15)

/-- `MULQ_S.W rd, rs, rt` (R249). -/
def execMulqSW (rd rs rt : Reg) (s : State) : Out := s.mulGpr .rev2 rd rs rt (multiplyQ31High 0)

/-- `MULQ_RS.W rd, rs, rt` (R250). -/
def execMulqRsW (rd rs rt : Reg) (s : State) : Out := s.mulGpr .rev2 rd rs rt (multiplyQ31High 0x80000000)

end Sys2Proof.Machine
end

