-- ==== Sys2Proof/Machine/Precision.lean ====
section
/-! DEFINITION. Precision reduce and expand: one meaning per instruction (41_precision.md R170 to R187). -/

namespace Sys2Proof.Machine


/-- `PRECR.QB.PH rd, rs, rt` (R171): the Operation section is rebuilt (D16; log 21). -/
def execPrecrQbPh (rd rs rt : Reg) (s : State) : Out :=
  s.alu3 .rev2 rd rs rt (fun x y => joinQb (qb2 x) (qb0 x) (qb2 y) (qb0 y))

/-- `PRECRQ.QB.PH rd, rs, rt` (R172): the Operation section is rebuilt (D16; log 21). -/
def execPrecrqQbPh (rd rs rt : Reg) (s : State) : Out :=
  s.alu3 .rev1 rd rs rt (fun x y => joinQb (qb3 x) (qb1 x) (qb3 y) (qb1 y))

/-- `PRECRQ.PH.W rd, rs, rt` (R175). -/
def execPrecrqPhW (rd rs rt : Reg) (s : State) : Out := s.alu3 .rev1 rd rs rt (fun x y => joinPh (phl x) (phl y))

/-- `PRECRQ_RS.PH.W rd, rs, rt` (R176). -/
def execPrecrqRsPhW (rd rs rt : Reg) (s : State) : Out :=
  s.alu3F .rev1 22 rd rs rt (fun x y =>
    let l := trunc16Sat16Round x
    let r := trunc16Sat16Round y
    (joinPh l.1 r.1, l.2 || r.2))

/-- `PRECRQU_S.QB.PH rd, rs, rt` (R177). -/
def execPrecrquSQbPh (rd rs rt : Reg) (s : State) : Out :=
  s.alu3F .rev1 22 rd rs rt (fun x y =>
    let d := sat8ReducePrecision (phl x)
    let c := sat8ReducePrecision (phr x)
    let b := sat8ReducePrecision (phl y)
    let a := sat8ReducePrecision (phr y)
    (joinQb d.1 c.1 b.1 a.1, d.2 || c.2 || b.2 || a.2))

/-- `PRECR_SRA.PH.W rt, rs, sa` (R173): the word that was in rt gives the left halfword. -/
def execPrecrSraPhW (rt rs : Reg) (sa : Nat) (s : State) : Out :=
  s.guarded .rev2 (s.writeGpr rt (joinPh (sraLow sa (s.readGpr rt)) (sraLow sa (s.readGpr rs)))).retire

/-- `PRECR_SRA_R.PH.W rt, rs, sa` (R174): the word that was in rt gives the left halfword. -/
def execPrecrSraRPhW (rt rs : Reg) (sa : Nat) (s : State) : Out :=
  s.guarded .rev2 (s.writeGpr rt (joinPh (sraLowRound sa (s.readGpr rt)) (sraLowRound sa (s.readGpr rs)))).retire

/-- `PRECEQ.W.PHL rt, rs` (R178). -/
def execPreceqWPhl (rt rs : Reg) (s : State) : Out := s.alu2 .rev1 rt rs (fun x => joinPh (phl x) 0#16)

/-- `PRECEQ.W.PHR rt, rs` (R179). -/
def execPreceqWPhr (rt rs : Reg) (s : State) : Out := s.alu2 .rev1 rt rs (fun x => joinPh (phr x) 0#16)

/-- `PRECEQU.PH.QBL rt, rs` (R180). -/
def execPrecequPhQbl (rt rs : Reg) (s : State) : Out :=
  s.alu2 .rev1 rt rs (fun x => joinPh (expandQ (qb3 x)) (expandQ (qb2 x)))

/-- `PRECEQU.PH.QBR rt, rs` (R181). -/
def execPrecequPhQbr (rt rs : Reg) (s : State) : Out :=
  s.alu2 .rev1 rt rs (fun x => joinPh (expandQ (qb1 x)) (expandQ (qb0 x)))

/-- `PRECEQU.PH.QBLA rt, rs` (R182). -/
def execPrecequPhQbla (rt rs : Reg) (s : State) : Out :=
  s.alu2 .rev1 rt rs (fun x => joinPh (expandQ (qb3 x)) (expandQ (qb1 x)))

/-- `PRECEQU.PH.QBRA rt, rs` (R183). -/
def execPrecequPhQbra (rt rs : Reg) (s : State) : Out :=
  s.alu2 .rev1 rt rs (fun x => joinPh (expandQ (qb2 x)) (expandQ (qb0 x)))

/-- `PRECEU.PH.QBL rt, rs` (R184). -/
def execPreceuPhQbl (rt rs : Reg) (s : State) : Out :=
  s.alu2 .rev1 rt rs (fun x => joinPh (expandU (qb3 x)) (expandU (qb2 x)))

/-- `PRECEU.PH.QBR rt, rs` (R185). -/
def execPreceuPhQbr (rt rs : Reg) (s : State) : Out :=
  s.alu2 .rev1 rt rs (fun x => joinPh (expandU (qb1 x)) (expandU (qb0 x)))

/-- `PRECEU.PH.QBLA rt, rs` (R186). -/
def execPreceuPhQbla (rt rs : Reg) (s : State) : Out :=
  s.alu2 .rev1 rt rs (fun x => joinPh (expandU (qb3 x)) (expandU (qb1 x)))

/-- `PRECEU.PH.QBRA rt, rs` (R187). -/
def execPreceuPhQbra (rt rs : Reg) (s : State) : Out :=
  s.alu2 .rev1 rt rs (fun x => joinPh (expandU (qb2 x)) (expandU (qb0 x)))

end Sys2Proof.Machine
end

