-- ==== Sys2Proof/Machine/Shift.lean ====
section
/-! DEFINITION. GPR-based shifts: one meaning per instruction (42_shift.md R200 to R222). -/

namespace Sys2Proof.Machine


/-- `SHLLV.QB rd, rt, rs` (R202). -/
def execShllvQb (rd rt rs : Reg) (s : State) : Out :=
  s.alu3F .rev1 22 rd rt rs (fun x y => qb1Lanes (shift8Left (amount y 3)) x)

/-- `SHLLV.PH rd, rt, rs` (R204). -/
def execShllvPh (rd rt rs : Reg) (s : State) : Out :=
  s.alu3F .rev1 22 rd rt rs (fun x y => ph1 (shift16Left (amount y 4)) x)

/-- `SHLLV_S.PH rd, rt, rs` (R206). -/
def execShllvSPh (rd rt rs : Reg) (s : State) : Out :=
  s.alu3F .rev1 22 rd rt rs (fun x y => ph1 (sat16ShiftLeft (amount y 4)) x)

/-- `SHLLV_S.W rd, rt, rs` (R208). -/
def execShllvSW (rd rt rs : Reg) (s : State) : Out :=
  s.alu3F .rev1 22 rd rt rs (fun x y => sat32ShiftLeft (amount y 5) x)

/-- `SHRLV.QB rd, rt, rs` (R210). -/
def execShrlvQb (rd rt rs : Reg) (s : State) : Out :=
  s.alu3 .rev1 rd rt rs (fun x y => qb1Plain (shiftRightLogical (amount y 3)) x)

/-- `SHRLV.PH rd, rt, rs` (R212). -/
def execShrlvPh (rd rt rs : Reg) (s : State) : Out :=
  s.alu3 .rev2 rd rt rs (fun x y => ph1Plain (shiftRightLogical (amount y 4)) x)

/-- `SHRAV.QB rd, rt, rs` (R215). -/
def execShravQb (rd rt rs : Reg) (s : State) : Out :=
  s.alu3 .rev2 rd rt rs (fun x y => qb1Plain (shiftRightArithmetic (amount y 3)) x)

/-- `SHRAV_R.QB rd, rt, rs` (R216). -/
def execShravRQb (rd rt rs : Reg) (s : State) : Out :=
  s.alu3 .rev2 rd rt rs (fun x y => qb1Plain (rndShiftRightArithmetic (amount y 3)) x)

/-- `SHRAV.PH rd, rt, rs` (R218). -/
def execShravPh (rd rt rs : Reg) (s : State) : Out :=
  s.alu3 .rev1 rd rt rs (fun x y => ph1Plain (shiftRightArithmetic (amount y 4)) x)

/-- `SHRAV_R.PH rd, rt, rs` (R220). -/
def execShravRPh (rd rt rs : Reg) (s : State) : Out :=
  s.alu3 .rev1 rd rt rs (fun x y => ph1Plain (rndShiftRightArithmetic (amount y 4)) x)

/-- `SHRAV_R.W rd, rt, rs` (R222). -/
def execShravRW (rd rt rs : Reg) (s : State) : Out :=
  s.alu3 .rev1 rd rt rs (fun x y => rndShiftRightArithmetic (amount y 5) x)

/-- `SHLL_S.W rt, rs, sa` (R207). -/
def execShllSW (rt rs : Reg) (sa : Nat) (s : State) : Out := s.alu2F .rev1 22 rt rs (sat32ShiftLeft sa)

/-- `SHRA_R.W rt, rs, sa` (R221). -/
def execShraRW (rt rs : Reg) (sa : Nat) (s : State) : Out := s.alu2 .rev1 rt rs (rndShiftRightArithmetic sa)

/-- `SHLL.PH rt, rs, sa` (R203). -/
def execShllPh (rt rs : Reg) (sa : Nat) (s : State) : Out := s.alu2F .rev1 22 rt rs (ph1 (shift16Left sa))

/-- `SHLL_S.PH rt, rs, sa` (R205). -/
def execShllSPh (rt rs : Reg) (sa : Nat) (s : State) : Out := s.alu2F .rev1 22 rt rs (ph1 (sat16ShiftLeft sa))

/-- `SHRA.PH rt, rs, sa` (R217). -/
def execShraPh (rt rs : Reg) (sa : Nat) (s : State) : Out := s.alu2 .rev1 rt rs (ph1Plain (shiftRightArithmetic sa))

/-- `SHRA_R.PH rt, rs, sa` (R219). -/
def execShraRPh (rt rs : Reg) (sa : Nat) (s : State) : Out := s.alu2 .rev1 rt rs (ph1Plain (rndShiftRightArithmetic sa))

/-- `SHLL.QB rt, rs, sa` (R201). -/
def execShllQb (rt rs : Reg) (sa : Nat) (s : State) : Out := s.alu2F .rev1 22 rt rs (qb1Lanes (shift8Left sa))

/-- `SHRL.QB rt, rs, sa` (R209). -/
def execShrlQb (rt rs : Reg) (sa : Nat) (s : State) : Out := s.alu2 .rev1 rt rs (qb1Plain (shiftRightLogical sa))

/-- `SHRA.QB rt, rs, sa` (R213). -/
def execShraQb (rt rs : Reg) (sa : Nat) (s : State) : Out := s.alu2 .rev2 rt rs (qb1Plain (shiftRightArithmetic sa))

/-- `SHRA_R.QB rt, rs, sa` (R214). -/
def execShraRQb (rt rs : Reg) (sa : Nat) (s : State) : Out := s.alu2 .rev2 rt rs (qb1Plain (rndShiftRightArithmetic sa))

/-- `SHRL.PH rt, rs, sa` (R211): encoding DEDUCED (D15; log 19). -/
def execShrlPh (rt rs : Reg) (sa : Nat) (s : State) : Out := s.alu2 .rev2 rt rs (ph1Plain (shiftRightLogical sa))

end Sys2Proof.Machine
end

