-- ==== Sys2Proof/Machine/Dispatch.lean ====
section
/-! DEFINITION. The dispatch from an instruction to its meaning. -/

namespace Sys2Proof.Machine

/-- The meaning of an instruction, one arm per row of spec/opcode_table.json. -/
def exec (i : Instr) (s : State) : Host.Outcome State Fault Refusal :=
  match i with
  | .addqPh rd rs rt => Sys2Proof.Machine.execAddqPh rd rs rt s
  | .addqSPh rd rs rt => Sys2Proof.Machine.execAddqSPh rd rs rt s
  | .addqSW rd rs rt => Sys2Proof.Machine.execAddqSW rd rs rt s
  | .adduQb rd rs rt => Sys2Proof.Machine.execAdduQb rd rs rt s
  | .adduSQb rd rs rt => Sys2Proof.Machine.execAdduSQb rd rs rt s
  | .adduhQb rd rs rt => Sys2Proof.Machine.execAdduhQb rd rs rt s
  | .adduhRQb rd rs rt => Sys2Proof.Machine.execAdduhRQb rd rs rt s
  | .adduPh rd rs rt => Sys2Proof.Machine.execAdduPh rd rs rt s
  | .adduSPh rd rs rt => Sys2Proof.Machine.execAdduSPh rd rs rt s
  | .addqhPh rd rs rt => Sys2Proof.Machine.execAddqhPh rd rs rt s
  | .addqhRPh rd rs rt => Sys2Proof.Machine.execAddqhRPh rd rs rt s
  | .addqhW rd rs rt => Sys2Proof.Machine.execAddqhW rd rs rt s
  | .addqhRW rd rs rt => Sys2Proof.Machine.execAddqhRW rd rs rt s
  | .subqPh rd rs rt => Sys2Proof.Machine.execSubqPh rd rs rt s
  | .subqSPh rd rs rt => Sys2Proof.Machine.execSubqSPh rd rs rt s
  | .subqSW rd rs rt => Sys2Proof.Machine.execSubqSW rd rs rt s
  | .subuQb rd rs rt => Sys2Proof.Machine.execSubuQb rd rs rt s
  | .subuSQb rd rs rt => Sys2Proof.Machine.execSubuSQb rd rs rt s
  | .subuhQb rd rs rt => Sys2Proof.Machine.execSubuhQb rd rs rt s
  | .subuhRQb rd rs rt => Sys2Proof.Machine.execSubuhRQb rd rs rt s
  | .subuPh rd rs rt => Sys2Proof.Machine.execSubuPh rd rs rt s
  | .subuSPh rd rs rt => Sys2Proof.Machine.execSubuSPh rd rs rt s
  | .subqhPh rd rs rt => Sys2Proof.Machine.execSubqhPh rd rs rt s
  | .subqhRPh rd rs rt => Sys2Proof.Machine.execSubqhRPh rd rs rt s
  | .subqhW rd rs rt => Sys2Proof.Machine.execSubqhW rd rs rt s
  | .subqhRW rd rs rt => Sys2Proof.Machine.execSubqhRW rd rs rt s
  | .addsc rd rs rt => Sys2Proof.Machine.execAddsc rd rs rt s
  | .addwc rd rs rt => Sys2Proof.Machine.execAddwc rd rs rt s
  | .modsub rd rs rt => Sys2Proof.Machine.execModsub rd rs rt s
  | .absqSQb rt rs => Sys2Proof.Machine.execAbsqSQb rt rs s
  | .absqSPh rt rs => Sys2Proof.Machine.execAbsqSPh rt rs s
  | .absqSW rt rs => Sys2Proof.Machine.execAbsqSW rt rs s
  | .radduWQb rt rs => Sys2Proof.Machine.execRadduWQb rt rs s
  | .precrQbPh rd rs rt => Sys2Proof.Machine.execPrecrQbPh rd rs rt s
  | .precrqQbPh rd rs rt => Sys2Proof.Machine.execPrecrqQbPh rd rs rt s
  | .precrqPhW rd rs rt => Sys2Proof.Machine.execPrecrqPhW rd rs rt s
  | .precrqRsPhW rd rs rt => Sys2Proof.Machine.execPrecrqRsPhW rd rs rt s
  | .precrquSQbPh rd rs rt => Sys2Proof.Machine.execPrecrquSQbPh rd rs rt s
  | .precrSraPhW rt rs sa => Sys2Proof.Machine.execPrecrSraPhW rt rs sa s
  | .precrSraRPhW rt rs sa => Sys2Proof.Machine.execPrecrSraRPhW rt rs sa s
  | .preceqWPhl rt rs => Sys2Proof.Machine.execPreceqWPhl rt rs s
  | .preceqWPhr rt rs => Sys2Proof.Machine.execPreceqWPhr rt rs s
  | .precequPhQbl rt rs => Sys2Proof.Machine.execPrecequPhQbl rt rs s
  | .precequPhQbr rt rs => Sys2Proof.Machine.execPrecequPhQbr rt rs s
  | .precequPhQbla rt rs => Sys2Proof.Machine.execPrecequPhQbla rt rs s
  | .precequPhQbra rt rs => Sys2Proof.Machine.execPrecequPhQbra rt rs s
  | .preceuPhQbl rt rs => Sys2Proof.Machine.execPreceuPhQbl rt rs s
  | .preceuPhQbr rt rs => Sys2Proof.Machine.execPreceuPhQbr rt rs s
  | .preceuPhQbla rt rs => Sys2Proof.Machine.execPreceuPhQbla rt rs s
  | .preceuPhQbra rt rs => Sys2Proof.Machine.execPreceuPhQbra rt rs s
  | .shllvQb rd rt rs => Sys2Proof.Machine.execShllvQb rd rt rs s
  | .shllvPh rd rt rs => Sys2Proof.Machine.execShllvPh rd rt rs s
  | .shllvSPh rd rt rs => Sys2Proof.Machine.execShllvSPh rd rt rs s
  | .shllvSW rd rt rs => Sys2Proof.Machine.execShllvSW rd rt rs s
  | .shrlvQb rd rt rs => Sys2Proof.Machine.execShrlvQb rd rt rs s
  | .shrlvPh rd rt rs => Sys2Proof.Machine.execShrlvPh rd rt rs s
  | .shravQb rd rt rs => Sys2Proof.Machine.execShravQb rd rt rs s
  | .shravRQb rd rt rs => Sys2Proof.Machine.execShravRQb rd rt rs s
  | .shravPh rd rt rs => Sys2Proof.Machine.execShravPh rd rt rs s
  | .shravRPh rd rt rs => Sys2Proof.Machine.execShravRPh rd rt rs s
  | .shravRW rd rt rs => Sys2Proof.Machine.execShravRW rd rt rs s
  | .shllSW rt rs sa => Sys2Proof.Machine.execShllSW rt rs sa s
  | .shraRW rt rs sa => Sys2Proof.Machine.execShraRW rt rs sa s
  | .shllPh rt rs sa => Sys2Proof.Machine.execShllPh rt rs sa s
  | .shllSPh rt rs sa => Sys2Proof.Machine.execShllSPh rt rs sa s
  | .shraPh rt rs sa => Sys2Proof.Machine.execShraPh rt rs sa s
  | .shraRPh rt rs sa => Sys2Proof.Machine.execShraRPh rt rs sa s
  | .shllQb rt rs sa => Sys2Proof.Machine.execShllQb rt rs sa s
  | .shrlQb rt rs sa => Sys2Proof.Machine.execShrlQb rt rs sa s
  | .shraQb rt rs sa => Sys2Proof.Machine.execShraQb rt rs sa s
  | .shraRQb rt rs sa => Sys2Proof.Machine.execShraRQb rt rs sa s
  | .shrlPh rt rs sa => Sys2Proof.Machine.execShrlPh rt rs sa s
  | .muleuSPhQbl rd rs rt => Sys2Proof.Machine.execMuleuSPhQbl rd rs rt s
  | .muleuSPhQbr rd rs rt => Sys2Proof.Machine.execMuleuSPhQbr rd rs rt s
  | .mulqRsPh rd rs rt => Sys2Proof.Machine.execMulqRsPh rd rs rt s
  | .muleqSWPhl rd rs rt => Sys2Proof.Machine.execMuleqSWPhl rd rs rt s
  | .muleqSWPhr rd rs rt => Sys2Proof.Machine.execMuleqSWPhr rd rs rt s
  | .mulPh rd rs rt => Sys2Proof.Machine.execMulPh rd rs rt s
  | .mulSPh rd rs rt => Sys2Proof.Machine.execMulSPh rd rs rt s
  | .mulqSPh rd rs rt => Sys2Proof.Machine.execMulqSPh rd rs rt s
  | .mulqSW rd rs rt => Sys2Proof.Machine.execMulqSW rd rs rt s
  | .mulqRsW rd rs rt => Sys2Proof.Machine.execMulqRsW rd rs rt s
  | .dpaWPh ac rs rt => Sys2Proof.Machine.execDpaWPh ac rs rt s
  | .dpaxWPh ac rs rt => Sys2Proof.Machine.execDpaxWPh ac rs rt s
  | .dpauHQbl ac rs rt => Sys2Proof.Machine.execDpauHQbl ac rs rt s
  | .dpauHQbr ac rs rt => Sys2Proof.Machine.execDpauHQbr ac rs rt s
  | .dpaqSWPh ac rs rt => Sys2Proof.Machine.execDpaqSWPh ac rs rt s
  | .dpaqSaLW ac rs rt => Sys2Proof.Machine.execDpaqSaLW ac rs rt s
  | .dpaqxSWPh ac rs rt => Sys2Proof.Machine.execDpaqxSWPh ac rs rt s
  | .dpaqxSaWPh ac rs rt => Sys2Proof.Machine.execDpaqxSaWPh ac rs rt s
  | .dpsWPh ac rs rt => Sys2Proof.Machine.execDpsWPh ac rs rt s
  | .dpsxWPh ac rs rt => Sys2Proof.Machine.execDpsxWPh ac rs rt s
  | .dpsuHQbl ac rs rt => Sys2Proof.Machine.execDpsuHQbl ac rs rt s
  | .dpsuHQbr ac rs rt => Sys2Proof.Machine.execDpsuHQbr ac rs rt s
  | .dpsqSWPh ac rs rt => Sys2Proof.Machine.execDpsqSWPh ac rs rt s
  | .dpsqSaLW ac rs rt => Sys2Proof.Machine.execDpsqSaLW ac rs rt s
  | .dpsqxSWPh ac rs rt => Sys2Proof.Machine.execDpsqxSWPh ac rs rt s
  | .dpsqxSaWPh ac rs rt => Sys2Proof.Machine.execDpsqxSaWPh ac rs rt s
  | .madd ac rs rt => Sys2Proof.Machine.execMadd ac rs rt s
  | .maddu ac rs rt => Sys2Proof.Machine.execMaddu ac rs rt s
  | .msub ac rs rt => Sys2Proof.Machine.execMsub ac rs rt s
  | .msubu ac rs rt => Sys2Proof.Machine.execMsubu ac rs rt s
  | .mult ac rs rt => Sys2Proof.Machine.execMult ac rs rt s
  | .multu ac rs rt => Sys2Proof.Machine.execMultu ac rs rt s
  | .mulsaWPh ac rs rt => Sys2Proof.Machine.execMulsaWPh ac rs rt s
  | .mulsaqSWPh ac rs rt => Sys2Proof.Machine.execMulsaqSWPh ac rs rt s
  | .maqSWPhr ac rs rt => Sys2Proof.Machine.execMaqSWPhr ac rs rt s
  | .maqSWPhl ac rs rt => Sys2Proof.Machine.execMaqSWPhl ac rs rt s
  | .maqSaWPhr ac rs rt => Sys2Proof.Machine.execMaqSaWPhr ac rs rt s
  | .maqSaWPhl ac rs rt => Sys2Proof.Machine.execMaqSaWPhl ac rs rt s
  | .replPh rt imm => Sys2Proof.Machine.execReplPh rt imm s
  | .bitrev rt rs => Sys2Proof.Machine.execBitrev rt rs s
  | .insv rt rs => Sys2Proof.Machine.execInsv rt rs s
  | .replvQb rt rs => Sys2Proof.Machine.execReplvQb rt rs s
  | .replvPh rt rs => Sys2Proof.Machine.execReplvPh rt rs s
  | .replQb rt imm => Sys2Proof.Machine.execReplQb rt imm s
  | .cmpgduEqQb rd rs rt => Sys2Proof.Machine.execCmpgduEqQb rd rs rt s
  | .cmpgduLtQb rd rs rt => Sys2Proof.Machine.execCmpgduLtQb rd rs rt s
  | .cmpgduLeQb rd rs rt => Sys2Proof.Machine.execCmpgduLeQb rd rs rt s
  | .cmpguEqQb rd rs rt => Sys2Proof.Machine.execCmpguEqQb rd rs rt s
  | .cmpguLtQb rd rs rt => Sys2Proof.Machine.execCmpguLtQb rd rs rt s
  | .cmpguLeQb rd rs rt => Sys2Proof.Machine.execCmpguLeQb rd rs rt s
  | .pickQb rd rs rt => Sys2Proof.Machine.execPickQb rd rs rt s
  | .pickPh rd rs rt => Sys2Proof.Machine.execPickPh rd rs rt s
  | .packrlPh rd rs rt => Sys2Proof.Machine.execPackrlPh rd rs rt s
  | .cmpuEqQb rs rt => Sys2Proof.Machine.execCmpuEqQb rs rt s
  | .cmpuLtQb rs rt => Sys2Proof.Machine.execCmpuLtQb rs rt s
  | .cmpuLeQb rs rt => Sys2Proof.Machine.execCmpuLeQb rs rt s
  | .cmpEqPh rs rt => Sys2Proof.Machine.execCmpEqPh rs rt s
  | .cmpLtPh rs rt => Sys2Proof.Machine.execCmpLtPh rs rt s
  | .cmpLePh rs rt => Sys2Proof.Machine.execCmpLePh rs rt s
  | .shilo ac shift => Sys2Proof.Machine.execShilo ac shift s
  | .extpv rt ac rs => Sys2Proof.Machine.execExtpv rt ac rs s
  | .extpdpv rt ac rs => Sys2Proof.Machine.execExtpdpv rt ac rs s
  | .extrvW rt ac rs => Sys2Proof.Machine.execExtrvW rt ac rs s
  | .extrvRW rt ac rs => Sys2Proof.Machine.execExtrvRW rt ac rs s
  | .extrvRsW rt ac rs => Sys2Proof.Machine.execExtrvRsW rt ac rs s
  | .extrvSH rt ac rs => Sys2Proof.Machine.execExtrvSH rt ac rs s
  | .mfhi rt ac => Sys2Proof.Machine.execMfhi rt ac s
  | .mflo rt ac => Sys2Proof.Machine.execMflo rt ac s
  | .mthi rs ac => Sys2Proof.Machine.execMthi rs ac s
  | .mtlo rs ac => Sys2Proof.Machine.execMtlo rs ac s
  | .mthlip rs ac => Sys2Proof.Machine.execMthlip rs ac s
  | .shilov ac rs => Sys2Proof.Machine.execShilov ac rs s
  | .extp rt ac size => Sys2Proof.Machine.execExtp rt ac size s
  | .extpdp rt ac size => Sys2Proof.Machine.execExtpdp rt ac size s
  | .extrW rt ac shift => Sys2Proof.Machine.execExtrW rt ac shift s
  | .extrRW rt ac shift => Sys2Proof.Machine.execExtrRW rt ac shift s
  | .extrRsW rt ac shift => Sys2Proof.Machine.execExtrRsW rt ac shift s
  | .extrSH rt ac shift => Sys2Proof.Machine.execExtrSH rt ac shift s
  | .rddsp rt mask => Sys2Proof.Machine.execRddsp rt mask s
  | .wrdsp rt mask => Sys2Proof.Machine.execWrdsp rt mask s
  | .bposge32c offset => Sys2Proof.Machine.execBposge32c offset s

end Sys2Proof.Machine
end

