-- ==== Sys2Proof/Machine/Step.lean ====
section
/-! DEFINITION. The step: fetch the word at pc, decode it, run the instruction (10_state.md R33; 20_memory.md R75). -/

namespace Sys2Proof.Machine

/-- One step. The meanings do everything else, the access check and the advance of pc among it, so a step adds nothing to `exec`. -/
def step (s : State) : Host.Outcome State Fault Refusal :=
  match s.fetchWord with
  | none => .fault (.fetchUnwritten s.pc)
  | some w =>
    match decode w with
    | none => .refused (.notDspModule w)
    | some i => exec i s

/-- The instruction word `w` of `nbits` bits placed in memory at pc, where the next step fetches; nothing else changes (log 24). -/
def State.withFetchWord (s : State) (nbits w : Nat) : State := s.placeWord (BitVec.ofNat 32 (w % 2 ^ nbits))

end Sys2Proof.Machine
end

