-- ==== Sys2Proof/Safety.lean ====
section
/-! DEFINITION. The terms the statements use: when an instruction may run, what each instruction may write, the invariant of the
machine, and the spec's printed computations in bit-string form, written apart from the model's own (Machine/Lanes.lean). -/

namespace Sys2Proof.Claims

open Sys2Proof.Machine

/-! ## When an instruction runs, and what it may write -/

/-- The level of the module an instruction needs: the `revision` of its row in spec/opcode_table.json (60_exceptions.md R403). -/
def revisionOf (i : Instr) : Revision :=
  match i with
  | .addqPh .. | .addqSPh .. | .addqSW .. | .adduQb .. | .adduSQb .. | .subqPh .. | .subqSPh .. | .subqSW ..
  | .subuQb .. | .subuSQb .. | .addsc .. | .addwc .. | .modsub .. | .precrqQbPh .. | .precrqPhW .. | .precrqRsPhW ..
  | .precrquSQbPh .. | .shllvQb .. | .shllvPh .. | .shllvSPh .. | .shllvSW .. | .shrlvQb .. | .shravPh ..
  | .shravRPh .. | .shravRW .. | .muleuSPhQbl .. | .muleuSPhQbr .. | .mulqRsPh .. | .muleqSWPhl .. | .muleqSWPhr ..
  | .cmpguEqQb .. | .cmpguLtQb .. | .cmpguLeQb .. | .pickQb .. | .pickPh .. | .packrlPh .. | .cmpuEqQb ..
  | .cmpuLtQb .. | .cmpuLeQb .. | .cmpEqPh .. | .cmpLtPh .. | .cmpLePh .. | .shllSW .. | .shraRW .. | .shllPh ..
  | .shllSPh .. | .shraPh .. | .shraRPh .. | .replPh .. | .shilo .. | .absqSPh .. | .absqSW .. | .radduWQb ..
  | .preceqWPhl .. | .preceqWPhr .. | .precequPhQbl .. | .precequPhQbr .. | .precequPhQbla .. | .precequPhQbra ..
  | .preceuPhQbl .. | .preceuPhQbr .. | .preceuPhQbla .. | .preceuPhQbra .. | .bitrev .. | .insv .. | .replvQb ..
  | .replvPh .. | .dpauHQbl .. | .dpauHQbr .. | .dpaqSWPh .. | .dpaqSaLW .. | .dpsuHQbl .. | .dpsuHQbr ..
  | .dpsqSWPh .. | .dpsqSaLW .. | .madd .. | .maddu .. | .msub .. | .msubu .. | .mult .. | .multu .. | .mulsaqSWPh ..
  | .extpv .. | .extpdpv .. | .extrvW .. | .extrvRW .. | .extrvRsW .. | .extrvSH .. | .mfhi .. | .mflo .. | .mthi ..
  | .mtlo .. | .mthlip .. | .shilov .. | .extp .. | .extpdp .. | .maqSWPhr .. | .maqSWPhl .. | .maqSaWPhr ..
  | .maqSaWPhl .. | .extrW .. | .extrRW .. | .extrRsW .. | .extrSH .. | .rddsp .. | .wrdsp .. | .shllQb ..
  | .shrlQb .. | .replQb .. => .rev1
  | .adduhQb .. | .adduhRQb .. | .adduPh .. | .adduSPh .. | .addqhPh .. | .addqhRPh .. | .addqhW .. | .addqhRW ..
  | .subuhQb .. | .subuhRQb .. | .subuPh .. | .subuSPh .. | .subqhPh .. | .subqhRPh .. | .subqhW .. | .subqhRW ..
  | .precrQbPh .. | .shrlvPh .. | .shravQb .. | .shravRQb .. | .mulPh .. | .mulSPh .. | .mulqSPh .. | .mulqSW ..
  | .mulqRsW .. | .cmpgduEqQb .. | .cmpgduLtQb .. | .cmpgduLeQb .. | .precrSraPhW .. | .precrSraRPhW .. | .absqSQb ..
  | .dpaWPh .. | .dpaxWPh .. | .dpaqxSWPh .. | .dpaqxSaWPh .. | .dpsWPh .. | .dpsxWPh .. | .dpsqxSWPh ..
  | .dpsqxSaWPh .. | .mulsaWPh .. | .shraQb .. | .shraRQb .. | .shrlPh .. => .rev2
  | .bposge32c .. => .rev3

/-- The level is present and the module is enabled: DSPP, for Rev2 and Rev3 also DSP2P, and Status.MX (60_exceptions.md R402). -/
def Enabled (s : State) (rev : Revision) : Prop :=
  s.cfg.config3.getLsbD 10 = true ∧ (rev ≠ .rev1 → s.cfg.config3.getLsbD 11 = true) ∧ s.status.getLsbD 24 = true

/-- The general register an instruction writes (10_state.md R32). -/
def destGpr (i : Instr) : Option Reg :=
  match i with
  | .addqPh rd _ _ | .addqSPh rd _ _ | .addqSW rd _ _ | .adduQb rd _ _ | .adduSQb rd _ _ | .adduhQb rd _ _
  | .adduhRQb rd _ _ | .adduPh rd _ _ | .adduSPh rd _ _ | .addqhPh rd _ _ | .addqhRPh rd _ _ | .addqhW rd _ _
  | .addqhRW rd _ _ | .subqPh rd _ _ | .subqSPh rd _ _ | .subqSW rd _ _ | .subuQb rd _ _ | .subuSQb rd _ _
  | .subuhQb rd _ _ | .subuhRQb rd _ _ | .subuPh rd _ _ | .subuSPh rd _ _ | .subqhPh rd _ _ | .subqhRPh rd _ _
  | .subqhW rd _ _ | .subqhRW rd _ _ | .addsc rd _ _ | .addwc rd _ _ | .modsub rd _ _ | .precrQbPh rd _ _
  | .precrqQbPh rd _ _ | .precrqPhW rd _ _ | .precrqRsPhW rd _ _ | .precrquSQbPh rd _ _ | .shllvQb rd _ _
  | .shllvPh rd _ _ | .shllvSPh rd _ _ | .shllvSW rd _ _ | .shrlvQb rd _ _ | .shrlvPh rd _ _ | .shravQb rd _ _
  | .shravRQb rd _ _ | .shravPh rd _ _ | .shravRPh rd _ _ | .shravRW rd _ _ | .muleuSPhQbl rd _ _
  | .muleuSPhQbr rd _ _ | .mulqRsPh rd _ _ | .muleqSWPhl rd _ _ | .muleqSWPhr rd _ _ | .mulPh rd _ _ | .mulSPh rd _ _
  | .mulqSPh rd _ _ | .mulqSW rd _ _ | .mulqRsW rd _ _ | .cmpgduEqQb rd _ _ | .cmpgduLtQb rd _ _ | .cmpgduLeQb rd _ _
  | .cmpguEqQb rd _ _ | .cmpguLtQb rd _ _ | .cmpguLeQb rd _ _ | .pickQb rd _ _ | .pickPh rd _ _ | .packrlPh rd _ _ => some rd
  | .cmpuEqQb .. | .cmpuLtQb .. | .cmpuLeQb .. | .cmpEqPh .. | .cmpLtPh .. | .cmpLePh .. | .shilo .. | .dpaWPh ..
  | .dpaxWPh .. | .dpauHQbl .. | .dpauHQbr .. | .dpaqSWPh .. | .dpaqSaLW .. | .dpaqxSWPh .. | .dpaqxSaWPh ..
  | .dpsWPh .. | .dpsxWPh .. | .dpsuHQbl .. | .dpsuHQbr .. | .dpsqSWPh .. | .dpsqSaLW .. | .dpsqxSWPh ..
  | .dpsqxSaWPh .. | .madd .. | .maddu .. | .msub .. | .msubu .. | .mult .. | .multu .. | .mulsaWPh ..
  | .mulsaqSWPh .. | .mthi .. | .mtlo .. | .mthlip .. | .shilov .. | .maqSWPhr .. | .maqSWPhl .. | .maqSaWPhr ..
  | .maqSaWPhl .. | .wrdsp .. | .bposge32c .. => none
  | .precrSraPhW rt _ _ | .precrSraRPhW rt _ _ | .shllSW rt _ _ | .shraRW rt _ _ | .shllPh rt _ _ | .shllSPh rt _ _
  | .shraPh rt _ _ | .shraRPh rt _ _ | .replPh rt _ | .absqSQb rt _ | .absqSPh rt _ | .absqSW rt _ | .radduWQb rt _
  | .preceqWPhl rt _ | .preceqWPhr rt _ | .precequPhQbl rt _ | .precequPhQbr rt _ | .precequPhQbla rt _
  | .precequPhQbra rt _ | .preceuPhQbl rt _ | .preceuPhQbr rt _ | .preceuPhQbla rt _ | .preceuPhQbra rt _
  | .bitrev rt _ | .insv rt _ | .replvQb rt _ | .replvPh rt _ | .extpv rt _ _ | .extpdpv rt _ _ | .extrvW rt _ _
  | .extrvRW rt _ _ | .extrvRsW rt _ _ | .extrvSH rt _ _ | .mfhi rt _ | .mflo rt _ | .extp rt _ _ | .extpdp rt _ _
  | .extrW rt _ _ | .extrRW rt _ _ | .extrRsW rt _ _ | .extrSH rt _ _ | .rddsp rt _ | .shllQb rt _ _ | .shrlQb rt _ _
  | .shraQb rt _ _ | .shraRQb rt _ _ | .shrlPh rt _ _ | .replQb rt _ => some rt

/-- The accumulator an instruction writes; the GPR-destination multiplies leave ac0 UNPREDICTABLE (10_state.md R36). -/
def destAcc (i : Instr) : Option Acc :=
  match i with
  | .addqPh .. | .addqSPh .. | .addqSW .. | .adduQb .. | .adduSQb .. | .adduhQb .. | .adduhRQb .. | .adduPh ..
  | .adduSPh .. | .addqhPh .. | .addqhRPh .. | .addqhW .. | .addqhRW .. | .subqPh .. | .subqSPh .. | .subqSW ..
  | .subuQb .. | .subuSQb .. | .subuhQb .. | .subuhRQb .. | .subuPh .. | .subuSPh .. | .subqhPh .. | .subqhRPh ..
  | .subqhW .. | .subqhRW .. | .addsc .. | .addwc .. | .modsub .. | .precrQbPh .. | .precrqQbPh .. | .precrqPhW ..
  | .precrqRsPhW .. | .precrquSQbPh .. | .shllvQb .. | .shllvPh .. | .shllvSPh .. | .shllvSW .. | .shrlvQb ..
  | .shrlvPh .. | .shravQb .. | .shravRQb .. | .shravPh .. | .shravRPh .. | .shravRW .. | .cmpgduEqQb ..
  | .cmpgduLtQb .. | .cmpgduLeQb .. | .cmpguEqQb .. | .cmpguLtQb .. | .cmpguLeQb .. | .pickQb .. | .pickPh ..
  | .packrlPh .. | .cmpuEqQb .. | .cmpuLtQb .. | .cmpuLeQb .. | .cmpEqPh .. | .cmpLtPh .. | .cmpLePh ..
  | .precrSraPhW .. | .precrSraRPhW .. | .shllSW .. | .shraRW .. | .shllPh .. | .shllSPh .. | .shraPh ..
  | .shraRPh .. | .replPh .. | .absqSQb .. | .absqSPh .. | .absqSW .. | .radduWQb .. | .preceqWPhl ..
  | .preceqWPhr .. | .precequPhQbl .. | .precequPhQbr .. | .precequPhQbla .. | .precequPhQbra .. | .preceuPhQbl ..
  | .preceuPhQbr .. | .preceuPhQbla .. | .preceuPhQbra .. | .bitrev .. | .insv .. | .replvQb .. | .replvPh ..
  | .extpv .. | .extpdpv .. | .extrvW .. | .extrvRW .. | .extrvRsW .. | .extrvSH .. | .mfhi .. | .mflo .. | .extp ..
  | .extpdp .. | .extrW .. | .extrRW .. | .extrRsW .. | .extrSH .. | .rddsp .. | .wrdsp .. | .shllQb .. | .shrlQb ..
  | .shraQb .. | .shraRQb .. | .shrlPh .. | .replQb .. | .bposge32c .. => none
  | .muleuSPhQbl .. | .muleuSPhQbr .. | .mulqRsPh .. | .muleqSWPhl .. | .muleqSWPhr .. | .mulPh .. | .mulSPh ..
  | .mulqSPh .. | .mulqSW .. | .mulqRsW .. => some 0
  | .shilo ac _ | .dpaWPh ac _ _ | .dpaxWPh ac _ _ | .dpauHQbl ac _ _ | .dpauHQbr ac _ _ | .dpaqSWPh ac _ _
  | .dpaqSaLW ac _ _ | .dpaqxSWPh ac _ _ | .dpaqxSaWPh ac _ _ | .dpsWPh ac _ _ | .dpsxWPh ac _ _ | .dpsuHQbl ac _ _
  | .dpsuHQbr ac _ _ | .dpsqSWPh ac _ _ | .dpsqSaLW ac _ _ | .dpsqxSWPh ac _ _ | .dpsqxSaWPh ac _ _ | .madd ac _ _
  | .maddu ac _ _ | .msub ac _ _ | .msubu ac _ _ | .mult ac _ _ | .multu ac _ _ | .mulsaWPh ac _ _
  | .mulsaqSWPh ac _ _ | .mthi _ ac | .mtlo _ ac | .mthlip _ ac | .shilov ac _ | .maqSWPhr ac _ _ | .maqSWPhl ac _ _
  | .maqSaWPhr ac _ _ | .maqSaWPhl ac _ _ => some ac

/-- The bits of DSPControl an instruction may write (10_state.md R41 and R46; 47_acc_dspcontrol.md R384). -/
def dspWritable (i : Instr) : Word :=
  match i with
  | .addqPh .. | .addqSPh .. | .addqSW .. | .adduQb .. | .adduSQb .. | .adduPh .. | .adduSPh .. | .subqPh ..
  | .subqSPh .. | .subqSW .. | .subuQb .. | .subuSQb .. | .subuPh .. | .subuSPh .. | .addwc .. | .absqSQb ..
  | .absqSPh .. | .absqSW .. => 1#32 <<< 20
  | .adduhQb .. | .adduhRQb .. | .addqhPh .. | .addqhRPh .. | .addqhW .. | .addqhRW .. | .subuhQb .. | .subuhRQb ..
  | .subqhPh .. | .subqhRPh .. | .subqhW .. | .subqhRW .. | .modsub .. | .precrQbPh .. | .precrqQbPh ..
  | .precrqPhW .. | .shrlvQb .. | .shrlvPh .. | .shravQb .. | .shravRQb .. | .shravPh .. | .shravRPh .. | .shravRW ..
  | .cmpguEqQb .. | .cmpguLtQb .. | .cmpguLeQb .. | .pickQb .. | .pickPh .. | .packrlPh .. | .precrSraPhW ..
  | .precrSraRPhW .. | .shraRW .. | .shraPh .. | .shraRPh .. | .replPh .. | .shilo .. | .radduWQb .. | .preceqWPhl ..
  | .preceqWPhr .. | .precequPhQbl .. | .precequPhQbr .. | .precequPhQbla .. | .precequPhQbra .. | .preceuPhQbl ..
  | .preceuPhQbr .. | .preceuPhQbla .. | .preceuPhQbra .. | .bitrev .. | .insv .. | .replvQb .. | .replvPh ..
  | .dpaWPh .. | .dpaxWPh .. | .dpauHQbl .. | .dpauHQbr .. | .dpsWPh .. | .dpsxWPh .. | .dpsuHQbl .. | .dpsuHQbr ..
  | .madd .. | .maddu .. | .msub .. | .msubu .. | .mult .. | .multu .. | .mulsaWPh .. | .mfhi .. | .mflo ..
  | .mthi .. | .mtlo .. | .shilov .. | .rddsp .. | .shrlQb .. | .shraQb .. | .shraRQb .. | .shrlPh .. | .replQb ..
  | .bposge32c .. => 0#32
  | .addsc .. => 0x00002000#32
  | .precrqRsPhW .. | .precrquSQbPh .. | .shllvQb .. | .shllvPh .. | .shllvSPh .. | .shllvSW .. | .shllSW ..
  | .shllPh .. | .shllSPh .. | .shllQb .. => 1#32 <<< 22
  | .muleuSPhQbl .. | .muleuSPhQbr .. | .mulqRsPh .. | .muleqSWPhl .. | .muleqSWPhr .. | .mulPh .. | .mulSPh ..
  | .mulqSPh .. | .mulqSW .. | .mulqRsW .. => 1#32 <<< 21
  | .cmpgduEqQb .. | .cmpgduLtQb .. | .cmpgduLeQb .. | .cmpuEqQb .. | .cmpuLtQb .. | .cmpuLeQb .. | .cmpEqPh ..
  | .cmpLtPh .. | .cmpLePh .. => 0x0F000000#32
  | .dpaqSWPh ac _ _ | .dpaqSaLW ac _ _ | .dpaqxSWPh ac _ _ | .dpaqxSaWPh ac _ _ | .dpsqSWPh ac _ _
  | .dpsqSaLW ac _ _ | .dpsqxSWPh ac _ _ | .dpsqxSaWPh ac _ _ | .mulsaqSWPh ac _ _ | .maqSWPhr ac _ _
  | .maqSWPhl ac _ _ | .maqSaWPhr ac _ _ | .maqSaWPhl ac _ _ => 1#32 <<< (16 + ac.val)
  | .extpv .. | .extp .. => 0x00004000#32
  | .extpdpv .. | .extpdp .. => 0x0000403F#32
  | .extrvW .. | .extrvRW .. | .extrvRsW .. | .extrvSH .. | .extrW .. | .extrRW .. | .extrRsW .. | .extrSH .. => 1#32 <<< 23
  | .mthlip .. => 0x0000003F#32
  | .wrdsp .. => 0x0FFF7FBF#32

/-- INSV with size 0, the one UNPREDICTABLE operation (45_bitmanip.md R312). -/
def Unpredictable (i : Instr) (s : State) : Prop := (∃ rt rs, i = .insv rt rs) ∧ s.dspControl.extractLsb' 7 6 = 0#6

/-- The invariant of the machine: memory is in its canonical form, the cell of register 0 holds 0 and the reserved bits of
DSPControl are 0 (10_state.md R31, R38). -/
def MachineInv (s : State) : Prop := Memory.wf s.mem ∧ s.gpr.get 0 = 0#32 ∧ s.dspControl &&& 0xF0008040#32 = 0#32

/-! ## Next states, written out in full -/

/-- Only GPR[r] and pc change (nothing is written to register 0). -/
def toGpr (s : State) (r : Reg) (v : Word) : State :=
  { s with gpr := if r = 0 then s.gpr else s.gpr.set r v, pc := s.pc + 4#32 }

/-- A word with one bit set if `b`. -/
def sticky (d : Word) (bit : Nat) (b : Bool) : Word := if b then d ||| (1#32 <<< bit) else d

/-- `toGpr`, and one ouflag bit is set if the computation says so. -/
def toGprFlag (s : State) (bit : Nat) (r : Reg) (v : Word × Bool) : State :=
  { toGpr s r v.1 with dspControl := sticky s.dspControl bit v.2 }

/-- Only the accumulator and pc change. -/
def toAcc (s : State) (a : Acc) (v : DWord) : State :=
  { s with hi := s.hi.set a (v.extractLsb' 32 32), lo := s.lo.set a (v.extractLsb' 0 32), pc := s.pc + 4#32 }

/-- `toAcc`, and ouflag bit 16 + a is set if the computation says so. -/
def toAccFlag (s : State) (a : Acc) (v : DWord × Bool) : State :=
  { toAcc s a v.1 with dspControl := sticky s.dspControl (16 + a.val) v.2 }

/-- `toGprFlag` with bit 21, and ac0 holds some value: it is left UNPREDICTABLE. The counter of free values moves. -/
def ToGprFreeAc0 (s : State) (r : Reg) (v : Word × Bool) (t : State) : Prop :=
  ∃ h l : Word, t = { toGprFlag s 21 r v with hi := s.hi.set 0 h, lo := s.lo.set 0 l, draws := t.draws }

/-- The four condition bits written over DSPControl[27:24]. -/
def withCcond (d : Word) (cc : BitVec 4) : Word := (d &&& 0xF0FFFFFF#32) ||| (cc.setWidth 32 <<< 24)

/-! ## The printed computations -/

/-- The two halfword lanes, left then right. -/
def halves (f : BitVec 16 → BitVec 16 → BitVec 16 × Bool) (x y : Word) : Word × Bool :=
  let b := f (x.extractLsb' 16 16) (y.extractLsb' 16 16)
  let a := f (x.extractLsb' 0 16) (y.extractLsb' 0 16)
  (b.1 ++ a.1, b.2 || a.2)

/-- The four byte lanes, left to right. -/
def bytes (f : BitVec 8 → BitVec 8 → BitVec 8 × Bool) (x y : Word) : Word × Bool :=
  let d := f (x.extractLsb' 24 8) (y.extractLsb' 24 8)
  let c := f (x.extractLsb' 16 8) (y.extractLsb' 16 8)
  let b := f (x.extractLsb' 8 8) (y.extractLsb' 8 8)
  let a := f (x.extractLsb' 0 8) (y.extractLsb' 0 8)
  (d.1 ++ c.1 ++ b.1 ++ a.1, d.2 || c.2 || b.2 || a.2)

/-- `addS` of 40_arithmetic.md R121: an (n+1)-bit sum of sign-extended operands, flagged if its top two bits differ. -/
def printedAddS {n : Nat} (a b : BitVec n) : BitVec n × Bool :=
  let t := a.signExtend (n + 1) + b.signExtend (n + 1)
  (t.extractLsb' 0 n, t.getLsbD n != t.getLsbD (n - 1))

/-- `subS`. -/
def printedSubS {n : Nat} (a b : BitVec n) : BitVec n × Bool :=
  let t := a.signExtend (n + 1) - b.signExtend (n + 1)
  (t.extractLsb' 0 n, t.getLsbD n != t.getLsbD (n - 1))

/-- The clamp of `satAddS` and `satSubS`: 2^(n-1) - 1 if bit n of t is 0, else 2^(n-1). -/
def clampTop {n : Nat} (t : BitVec (n + 1)) : BitVec n × Bool :=
  if t.getLsbD n = t.getLsbD (n - 1) then (t.extractLsb' 0 n, false)
  else (if t.getLsbD n then BitVec.ofNat n (2 ^ (n - 1)) else BitVec.ofNat n (2 ^ (n - 1) - 1), true)

/-- `satAddS`. -/
def printedSatAddS {n : Nat} (a b : BitVec n) : BitVec n × Bool := clampTop (a.signExtend (n + 1) + b.signExtend (n + 1))

/-- `satSubS`. -/
def printedSatSubS {n : Nat} (a b : BitVec n) : BitVec n × Bool := clampTop (a.signExtend (n + 1) - b.signExtend (n + 1))

/-- `addU`: flagged if bit n of the zero-extended sum is 1. -/
def printedAddU {n : Nat} (a b : BitVec n) : BitVec n × Bool :=
  let t := a.setWidth (n + 1) + b.setWidth (n + 1)
  (t.extractLsb' 0 n, t.getLsbD n)

/-- `satAddU`. -/
def printedSatAddU {n : Nat} (a b : BitVec n) : BitVec n × Bool :=
  let t := a.setWidth (n + 1) + b.setWidth (n + 1)
  if t.getLsbD n then (BitVec.ofNat n (2 ^ n - 1), true) else (t.extractLsb' 0 n, false)

/-- `subU`. -/
def printedSubU {n : Nat} (a b : BitVec n) : BitVec n × Bool :=
  let t := a.setWidth (n + 1) - b.setWidth (n + 1)
  (t.extractLsb' 0 n, t.getLsbD n)

/-- `satSubU`. -/
def printedSatSubU {n : Nat} (a b : BitVec n) : BitVec n × Bool :=
  let t := a.setWidth (n + 1) - b.setWidth (n + 1)
  if t.getLsbD n then (0#n, true) else (t.extractLsb' 0 n, false)

/-- Bits [n:1] of an (n+1)-bit interim result, 1 added first in the rounding form: `halfAddS` and its three siblings. -/
def halved {n : Nat} (round : Bool) (t : BitVec (n + 1)) : BitVec n := (if round then t + 1#(n + 1) else t).extractLsb' 1 n

/-- `halfAddS`. -/
def printedHalfAddS {n : Nat} (r : Bool) (a b : BitVec n) : BitVec n × Bool :=
  (halved r (a.signExtend (n + 1) + b.signExtend (n + 1)), false)

/-- `halfSubS`. -/
def printedHalfSubS {n : Nat} (r : Bool) (a b : BitVec n) : BitVec n × Bool :=
  (halved r (a.signExtend (n + 1) - b.signExtend (n + 1)), false)

/-- `halfAddU`. -/
def printedHalfAddU {n : Nat} (r : Bool) (a b : BitVec n) : BitVec n × Bool :=
  (halved r (a.setWidth (n + 1) + b.setWidth (n + 1)), false)

/-- `halfSubU`. -/
def printedHalfSubU {n : Nat} (r : Bool) (a b : BitVec n) : BitVec n × Bool :=
  (halved r (a.setWidth (n + 1) - b.setWidth (n + 1)), false)

/-- `satAbs` (40_arithmetic.md R121). -/
def printedAbs {n : Nat} (a : BitVec n) : BitVec n × Bool :=
  if a = BitVec.ofNat n (2 ^ (n - 1)) then (BitVec.ofNat n (2 ^ (n - 1) - 1), true)
  else if a.getLsbD (n - 1) then (0#n - a, false) else (a, false)

/-- `shift8Left` (42_shift.md R223): flagged if one of the s bits shifted out is 1. -/
def printedShift8Left (s : Nat) (a : BitVec 8) : BitVec 8 × Bool :=
  (a <<< s, decide (s ≠ 0 ∧ a.toNat / 2 ^ (8 - s) ≠ 0))

/-- The `discard` of 42_shift.md R224 and R226 for width n: the sign, then the bits shifted out but the old sign, then the new sign. -/
def discarded {n : Nat} (s : Nat) (a : BitVec n) : BitVec n := a.sshiftRight (n - 1 - s)

/-- The test of 42_shift.md R224 and R226: `discard` is neither all zeros nor all ones. -/
def discardMixed {n : Nat} (s : Nat) (a : BitVec n) : Bool :=
  decide (discarded s a ≠ 0#n ∧ discarded s a ≠ BitVec.allOnes n)

/-- `shift16Left` (42_shift.md R224). -/
def printedShift16Left (s : Nat) (a : BitVec 16) : BitVec 16 × Bool := (a <<< s, discardMixed s a)

/-- `sat16ShiftLeft` and `sat32ShiftLeft` (42_shift.md R225, R226): clamped by the old sign if the test holds. -/
def printedSatShiftLeft {n : Nat} (s : Nat) (a : BitVec n) : BitVec n × Bool :=
  if discardMixed s a then (if a.getLsbD (n - 1) then BitVec.ofNat n (2 ^ (n - 1)) else BitVec.ofNat n (2 ^ (n - 1) - 1), true)
  else (a <<< s, false)

/-- The logical right shift as a quotient (42_shift.md R227). -/
def quotientU {n : Nat} (s : Nat) (a : BitVec n) : BitVec n := BitVec.ofNat n (a.toNat / 2 ^ s)

/-- floor(signed(a) / 2^s) (42_shift.md R228). -/
def quotientS {n : Nat} (s : Nat) (a : BitVec n) : BitVec n := BitVec.ofInt n (a.toInt / ((2 ^ s : Nat) : Int))

/-- The rounding right shift as printed (42_shift.md R229): one bit more is kept below the result, 1 is added there, it is dropped. -/
def printedRoundShift {n : Nat} (s : Nat) (a : BitVec n) : BitVec n :=
  ((a ++ 0#1).sshiftRight s + 1#(n + 1)).extractLsb' 1 n

/-- A one-register lane function used on both operands of `halves` or `bytes`. -/
def lane {n : Nat} (f : BitVec n → BitVec n × Bool) (a _b : BitVec n) : BitVec n × Bool := f a

/-- A lane function that raises no flag. -/
def quiet {n : Nat} (f : BitVec n → BitVec n) (a _b : BitVec n) : BitVec n × Bool := (f a, false)

/-- `trunc16Sat16Round` (41_precision.md R176). -/
def printedTruncRound (a : Word) : BitVec 16 × Bool :=
  let t := a.signExtend 33 + 0x00008000#33
  if t.getLsbD 32 = t.getLsbD 31 then (t.extractLsb' 16 16, false) else (0x7FFF#16, true)

/-- `sat8ReducePrecision` (41_precision.md R177). -/
def printedReduce (a : BitVec 16) : BitVec 8 × Bool :=
  if a.getLsbD 15 = false then
    if 0x7F80#15 < a.extractLsb' 0 15 then (0xFF#8, true) else (a.extractLsb' 7 8, false)
  else (0x00#8, true)

/-- The halving of precision after an arithmetic right shift, with one guard bit (41_precision.md R173, R174). -/
def printedShiftReduce (round : Bool) (sa : Nat) (v : Word) : BitVec 16 :=
  let t := (v ++ 0#1).sshiftRight sa
  ((if round && sa != 0 then t + 1#33 else t).extractLsb' 1 16)

/-- `mulU8U16` (43_multiply_gpr.md R251): a 24-bit product, saturated if its high byte is not 0. -/
def printedMulU8U16 (a : BitVec 8) (b : BitVec 16) : BitVec 16 × Bool :=
  let t := a.setWidth 24 * b.setWidth 24
  if t.extractLsb' 16 8 = 0#8 then (t.extractLsb' 0 16, false) else (0xFFFF#16, true)

/-- The Q15 product doubled, in 32 bits: -1.0 * -1.0 gives `top`, every other pair the product shifted left plus `inc`. -/
def printedQ15 (top inc : Word) (a b : BitVec 16) : Word × Bool :=
  if a = 0x8000#16 ∧ b = 0x8000#16 then (top, true)
  else (((a.signExtend 32 * b.signExtend 32) <<< 1) + inc, false)

/-- The high halfword of `printedQ15` (43_multiply_gpr.md R243, R248). -/
def printedQ15High (inc : Word) (a b : BitVec 16) : BitVec 16 × Bool :=
  let t := printedQ15 0x7FFF0000#32 inc a b
  (t.1.extractLsb' 16 16, t.2)

/-- The Q31 product doubled, in 64 bits (43_multiply_gpr.md R249, R250; 44_multiply_acc.md R261(b)). -/
def printedQ31 (top inc : DWord) (a b : Word) : DWord × Bool :=
  if a = 0x80000000#32 ∧ b = 0x80000000#32 then (top, true)
  else (((a.signExtend 64 * b.signExtend 64) <<< 1) + inc, false)

/-- `MultiplyI16I16` (43_multiply_gpr.md R246, R247). -/
def printedMulI16 (sat : Bool) (a b : BitVec 16) : BitVec 16 × Bool :=
  let t := a.signExtend 32 * b.signExtend 32
  if 0x7FFF < t.toInt then (if sat then 0x7FFF#16 else t.extractLsb' 0 16, true)
  else if t.toInt < -0x8000 then (if sat then 0x8000#16 else t.extractLsb' 0 16, true)
  else (t.extractLsb' 0 16, false)

/-- The sum of two unsigned byte products, zero-extended (44_multiply_acc.md R262 to R265). -/
def dotU (a b c d : BitVec 8) : DWord :=
  (a.setWidth 16 * b.setWidth 16).setWidth 64 + (c.setWidth 16 * d.setWidth 16).setWidth 64

/-- The exact 33-bit sum of two signed halfword products, sign-extended (44_multiply_acc.md R266). -/
def dotS (a b c d : BitVec 16) : DWord :=
  ((a.signExtend 32 * b.signExtend 32).signExtend 33 + (c.signExtend 32 * d.signExtend 32).signExtend 33).signExtend 64

/-- The sum of two saturated Q15 products (44_multiply_acc.md R268). -/
def dotQ (a b c d : BitVec 16) : DWord × Bool :=
  let p := printedQ15 0x7FFFFFFF#32 0#32 a b
  let q := printedQ15 0x7FFFFFFF#32 0#32 c d
  (p.1.signExtend 64 + q.1.signExtend 64, p.2 || q.2)

/-- `satAccQ31` (44_multiply_acc.md R261(e)). -/
def printedSatAcc (c : DWord) : DWord × Bool :=
  if c.getLsbD 63 = false ∧ c.extractLsb' 31 32 ≠ 0#32 then (0x000000007FFFFFFF#64, true)
  else if c.getLsbD 63 = true ∧ c.extractLsb' 31 32 ≠ 0xFFFFFFFF#32 then (0xFFFFFFFF80000000#64, true)
  else (c, false)

/-- `sat64` (44_multiply_acc.md R261(f)). -/
def printedSat64 (t : BitVec 65) : DWord × Bool :=
  if t.getLsbD 64 = t.getLsbD 63 then (t.extractLsb' 0 64, false)
  else (if t.getLsbD 64 then 0x8000000000000000#64 else 0x7FFFFFFFFFFFFFFF#64, true)

/-- `sat32AccumulateQ31` (44_multiply_acc.md R261(d)), sign-extended. -/
def printedSat32Acc (c : DWord) (a : Word) : DWord × Bool :=
  let t := c + a.signExtend 64
  if t.getLsbD 32 = t.getLsbD 31 then ((t.extractLsb' 0 32).signExtend 64, false)
  else ((if t.getLsbD 32 then 0x80000000#32 else 0x7FFFFFFF#32).signExtend 64, true)

/-- `shift65` (47_acc_dspcontrol.md R359(a)). -/
def printedShift65 (c : DWord) (n : Nat) : BitVec 65 := (c ++ 0#1).sshiftRight n

/-- `ovf33` (47_acc_dspcontrol.md R359(b)). -/
def printedOvf33 (t : BitVec 65) : Bool := decide (t.extractLsb' 32 33 ≠ 0#33 ∧ t.extractLsb' 32 33 ≠ 0x1FFFFFFFF#33)

/-- The three word extractions: plain, rounding, rounding and saturating (47_acc_dspcontrol.md R351 to R353). -/
def printedExtr (c : DWord) (n : Nat) : Word × Bool :=
  let t := printedShift65 c n
  (t.extractLsb' 1 32, printedOvf33 t || printedOvf33 (t + 1#65))

/-- EXTR_R.W. -/
def printedExtrR (c : DWord) (n : Nat) : Word × Bool :=
  let t := printedShift65 c n
  ((t + 1#65).extractLsb' 1 32, printedOvf33 t || printedOvf33 (t + 1#65))

/-- EXTR_RS.W. -/
def printedExtrRS (c : DWord) (n : Nat) : Word × Bool :=
  let t := printedShift65 c n
  let t2 := t + 1#65
  (if printedOvf33 t2 then (if t2.getLsbD 64 then 0x80000000#32 else 0x7FFFFFFF#32) else t2.extractLsb' 1 32,
    printedOvf33 t || printedOvf33 t2)

/-- EXTR_S.H (47_acc_dspcontrol.md R354): signed 64-bit comparisons of the shifted value. -/
def printedExtrSH (c : DWord) (n : Nat) : Word × Bool :=
  let v := c.sshiftRight n
  if (0x0000000000007FFF#64).slt v then (0x00007FFF#32, true)
  else if v.slt 0xFFFFFFFFFFFF8000#64 then (0xFFFF8000#32, true)
  else (v.extractLsb' 0 32, false)

/-- A relation of bytes, lane by lane, left-most first (46_compare_pick.md R321 to R329). -/
def compareBytes (f : BitVec 8 → BitVec 8 → Bool) (x y : Word) : BitVec 4 :=
  BitVec.ofBool (f (x.extractLsb' 24 8) (y.extractLsb' 24 8)) ++ BitVec.ofBool (f (x.extractLsb' 16 8) (y.extractLsb' 16 8)) ++
    BitVec.ofBool (f (x.extractLsb' 8 8) (y.extractLsb' 8 8)) ++ BitVec.ofBool (f (x.extractLsb' 0 8) (y.extractLsb' 0 8))

/-- A relation of halfwords, lane by lane, left first (46_compare_pick.md R330 to R332). -/
def compareHalves (f : BitVec 16 → BitVec 16 → Bool) (x y : Word) : BitVec 2 :=
  BitVec.ofBool (f (x.extractLsb' 16 16) (y.extractLsb' 16 16)) ++ BitVec.ofBool (f (x.extractLsb' 0 16) (y.extractLsb' 0 16))

/-- The field of DSPControl that a mask bit of WRDSP and RDDSP selects (47_acc_dspcontrol.md R384): does it hold bit k? -/
def maskSelects (mask k : Nat) : Bool :=
  (mask.testBit 0 && decide (k ≤ 5)) || (mask.testBit 1 && decide (7 ≤ k ∧ k ≤ 12)) || (mask.testBit 2 && decide (k = 13)) ||
    (mask.testBit 3 && decide (16 ≤ k ∧ k ≤ 23)) || (mask.testBit 4 && decide (24 ≤ k ∧ k ≤ 27)) || (mask.testBit 5 && decide (k = 14))

end Sys2Proof.Claims
end

