-- ==== Sys2Proof/Certificates/Slice0/Obligations.lean ====
section
/-! DEFINITION. The statements for the provers. Each docstring names the rules of spec/ a statement formalises, and what in it is the
model's or the spec's own choice. `Enabled` names the level of the table row of each instruction: a choice of the spec (D6, log 17). -/

open Sys2Proof Sys2Proof.Machine Sys2Proof.Claims

/-- What reset leaves (10_state.md R54; 70_reset_and_hazards.md R440, R441). That no byte of memory has a value is the model's choice (log 8). -/
def Obligations.ResetStateHoldsTheStatedValues : Prop :=
  State.reset.dspControl = 0#32 ∧ State.reset.gpr.get 0 = 0#32 ∧ State.reset.readGpr 0 = 0#32 ∧
    State.reset.hiloPending = false ∧ State.reset.cfg.config3.getLsbD 10 = true ∧
    State.reset.cfg.config3.getLsbD 11 = true ∧ ∀ a, Memory.read State.reset.mem a = none

/-- The invariant holds at reset (10_state.md R31, R38, R54).
That bit 6 is reserved too is a choice of the spec (D7, C1, log 25), and that nothing lies in memory is the model's (log 8). -/
def Obligations.ResetStateMeetsTheInvariant : Prop :=
  MachineInv State.reset

/-- No step sets a reserved bit of DSPControl or the cell of register 0 (10_state.md R31, R38); the form of memory is the model's own.
That bit 6 is reserved too, and that WRDSP moves no reserved bit, is a choice of the spec (D7, C1, C2, log 25). -/
def Obligations.StepKeepsTheMachineInvariant : Prop :=
  ∀ s t : State, MachineInv s → step s = .next t → MachineInv t

/-- Decode and encode agree on every well-formed instruction (30_encoding.md R83 to R102).
Bits [8:6] of SHRL.PH (D15, log 19) and the branch offset (D14, log 18) are choices of the spec. -/
def Obligations.DecodeOfEncodeIsTheInstruction : Prop :=
  ∀ i : Instr, i.wf = true → decode (encode i) = some i

/-- Each word has one meaning and only the bits printed x have none (30_encoding.md R84, R101, R105; that they are ignored is D4, log 11).
Bits [8:6] of SHRL.PH (D15, log 19) and the branch offset (D14, log 18) are choices of the spec too, and so is that no other word decodes (D22, log 12). -/
def Obligations.DecodedWordIsTheEncodingUpToIgnoredBits : Prop :=
  ∀ (w : Word) (i : Instr), decode w = some i ↔ i.wf = true ∧ w &&& ~~~i.ignoredBits = encode i

/-- Words of the Example lines of the spec.
The branch offset follows D14 (log 18). -/
def Obligations.SpecWordsDecodeAsPrinted : Prop :=
  decode 0x20A4180D#32 = some (.addqPh 3 4 5) ∧ decode 0x204303CD#32 = some (.precrSraPhW 2 3 0) ∧
    decode 0x2043F3B5#32 = some (.shllPh 2 3 15) ∧ decode 0x20831115#32 = some (.mulqRsPh 2 3 4) ∧
    decode 0x208360BF#32 = some (.dpauHQbl 1 3 4) ∧ decode 0x205FF03D#32 = some (.replPh 2 (-2)) ∧
    decode 0x2043413F#32 = some (.insv 2 3) ∧ decode 0x20830245#32 = some (.cmpuEqQb 3 4) ∧
    decode 0x20444E7F#32 = some (.extrW 2 1 4) ∧ decode 0x203C401D#32 = some (.shilo 1 (-4)) ∧
    decode 0x2047D67F#32 = some (.wrdsp 2 31) ∧ decode 0x88047FFD#32 = some (.bposge32c (-4))

/-- The step runs the decoded instruction (20_memory.md R75); the two other stops are the model's (logs 8, 12). -/
def Obligations.StepRunsTheDecodedInstruction : Prop :=
  ∀ s : State,
    (∀ (w : Word) (i : Instr), s.fetchWord = some w → decode w = some i → step s = exec i s) ∧
    (∀ w : Word, s.fetchWord = some w → decode w = none → step s = .refused (.notDspModule w)) ∧
    (s.fetchWord = none → step s = .fault (.fetchUnwritten s.pc))

/-- Placing and fetching agree in every layout and byte order (20_memory.md R75; the layout is the model's, log 9). -/
def Obligations.PlacedWordIsTheWordFetched : Prop :=
  ∀ (s : State) (w : Word), Memory.wf s.mem → (s.placeWord w).fetchWord = some w

/-- MemRead and MemWrite (20_memory.md R62, R63), with the mixed-width clause of R63. -/
def Obligations.MemReadAfterMemWriteGivesTheValue : Prop :=
  ∀ (s : State) (a : Word) (n v : Nat), Memory.wf s.mem → (n = 1 ∨ n = 2 ∨ n = 4) →
    (s.memWrite a n v).memRead a n = some (v % 256 ^ n) ∧
    (n = 4 → (s.memWrite a n v).memRead a 2 =
      some (if s.cfg.bigEndianMem then v / 65536 % 65536 else v % 65536))

/-- The frame of MemWrite (20_memory.md R62, R63; addresses wrap, 92_eei_decisions.md D13).
The wrap is a choice of the spec (log 23). -/
def Obligations.MemWriteLeavesOtherBytes : Prop :=
  ∀ (s : State) (a : Word) (n v : Nat), Memory.wf s.mem →
    (∀ x : Nat, (∀ k, k < n → x ≠ (a + BitVec.ofNat 32 k).toNat) →
      Memory.read (s.memWrite a n v).mem x = Memory.read s.mem x) ∧
    Memory.wf (s.memWrite a n v).mem ∧ { s.memWrite a n v with mem := s.mem } = s

/-- GPR[0] is always zero (10_state.md R31). -/
def Obligations.RegisterZeroReadsZeroAndOthersHoldWhatIsWritten : Prop :=
  ∀ (s : State) (r q : Reg) (v : Word),
    s.readGpr 0 = 0#32 ∧ s.writeGpr 0 v = s ∧ (r ≠ 0 → (s.writeGpr r v).readGpr r = v) ∧
    (q ≠ r → (s.writeGpr r v).readGpr q = s.readGpr q)

/-- The accumulators (10_state.md R34). -/
def Obligations.AccumulatorIsHiThenLo : Prop :=
  ∀ (s : State) (a b : Acc) (v : DWord),
    s.acc a = s.readHi a ++ s.readLo a ∧ (s.writeAcc a v).readHi a = v.extractLsb' 32 32 ∧
    (s.writeAcc a v).readLo a = v.extractLsb' 0 32 ∧ (b ≠ a → (s.writeAcc a v).acc b = s.acc b)

/-- Table 3.7 (60_exceptions.md R404), every row, for every instruction. That each instruction makes the check at the revision of its
table row, for ac0 too, and Rev3 by both bits, is a choice (D2, D5, D6, D17, C14, log 17). Which address a fault carries is another statement's. -/
def Obligations.AccessCheckFollowsTable37 : Prop :=
  ∀ (i : Instr) (s : State),
    let dspp := s.cfg.config3.getLsbD 10
    let dsp2p := s.cfg.config3.getLsbD 11
    let mx := s.status.getLsbD 24
    (dsp2p = false → dspp = false → ∃ p, exec i s = .fault (.reservedInstruction p)) ∧
    (dsp2p = false → dspp = true → revisionOf i ≠ .rev1 → ∃ p, exec i s = .fault (.reservedInstruction p)) ∧
    (dsp2p = false → dspp = true → mx = false → revisionOf i = .rev1 → ∃ p, exec i s = .fault (.dspDisabled p)) ∧
    (dsp2p = false → dspp = true → mx = true → revisionOf i = .rev1 → ∀ f, exec i s ≠ .fault f) ∧
    (dsp2p = true → dspp = true → mx = false → ∃ p, exec i s = .fault (.dspDisabled p)) ∧
    (dsp2p = true → dspp = true → mx = true → ∀ f, exec i s ≠ .fault f)

/-- No data-dependent exception exists (60_exceptions.md R400, R423); INSV with size 0 is the one case with no meaning (45_bitmanip.md R312).
That the level an instruction needs is that of its table row is a choice of the spec (D6, log 17). -/
def Obligations.EveryEnabledInstructionCompletes : Prop :=
  ∀ (i : Instr) (s : State), Enabled s (revisionOf i) → ¬ Unpredictable i s →
    ∃ t : State, exec i s = .next t ∧
      { t with gpr := s.gpr, pc := s.pc, hi := s.hi, lo := s.lo, dspControl := s.dspControl,
               hiloPending := s.hiloPending, draws := s.draws } = s

/-- The one UNPREDICTABLE operation (45_bitmanip.md R312; D3, log 13). -/
def Obligations.InsvWithSizeZeroIsRefused : Prop :=
  ∀ (s : State) (rt rs : Reg), Enabled s .rev1 → s.dspControl.extractLsb' 7 6 = 0#6 →
    exec (.insv rt rs) s = .refused (.unpredictableOperation "INSV")

/-- CP0 inputs, the hidden state of R53 and memory are outside what the module writes (10_state.md R47, R48, R53; 00_scope.md R8). -/
def Obligations.EnvironmentNeverChanges : Prop :=
  ∀ (i : Instr) (s t : State), exec i s = .next t →
    t.cfg = s.cfg ∧ t.status = s.status ∧ t.llbit = s.llbit ∧ t.isaMode = s.isaMode ∧
    t.inBranchDelaySlot = s.inBranchDelaySlot ∧ (∀ a, Memory.read t.mem a = Memory.read s.mem a) ∧
    s.draws ≤ t.draws

/-- Exactly one destination register, or none (10_state.md R32). -/
def Obligations.OnlyTheDestinationRegisterChanges : Prop :=
  ∀ (i : Instr) (s t : State), exec i s = .next t →
    ∀ q : Reg, destGpr i ≠ some q → t.readGpr q = s.readGpr q

/-- Writers of the accumulators (10_state.md R36). -/
def Obligations.OnlyTheTargetAccumulatorChanges : Prop :=
  ∀ (i : Instr) (s t : State), exec i s = .next t →
    ∀ a : Acc, destAcc i ≠ some a → t.readHi a = s.readHi a ∧ t.readLo a = s.readLo a

/-- Tables 3.5 and 3.8 (10_state.md R41, R46).
That bit 6 is reserved and WRDSP moves bits 27:24 only is a choice of the spec (D7, C1, C2, log 25).
PRECRQU_RS of Table 3.5 is read as PRECRQU_S (C3) and the fourth writer of EFI as EXTPDPV (C4, both log 27). -/
def Obligations.OnlyTheMappedDspControlBitsChange : Prop :=
  ∀ (i : Instr) (s t : State), exec i s = .next t →
    t.dspControl &&& ~~~dspWritable i = s.dspControl &&& ~~~dspWritable i

/-- The sticky flags (10_state.md R40). -/
def Obligations.OverflowFlagsAreSticky : Prop :=
  ∀ (i : Instr) (s t : State), (∀ rt mask, i ≠ .wrdsp rt mask) → exec i s = .next t →
    ∀ k, 16 ≤ k → k ≤ 23 → s.dspControl.getLsbD k = true → t.dspControl.getLsbD k = true

/-- pc (10_state.md R33) and the compact branch (48_load_branch.md R396; wrapping is D13, log 23); the address in a fault is D10 (log 10). -/
def Obligations.PcAdvancesByFourUnlessTheBranchIsTaken : Prop :=
  (∀ (i : Instr) (s t : State), (∀ o, i ≠ .bposge32c o) → exec i s = .next t → t.pc = s.pc + 4#32) ∧
  (∀ (s : State) (offset : Int), Enabled s .rev3 →
    exec (.bposge32c offset) s =
      .next { s with pc := s.pc + 4#32 + (if 32 ≤ (s.dspControl.extractLsb' 0 6).toNat then BitVec.ofInt 32 offset else 0#32) }) ∧
  (∀ (i : Instr) (s : State) (f : Fault), exec i s = .fault f → f = .reservedInstruction s.pc ∨ f = .dspDisabled s.pc)

/-- The event table of hilo_pending (70_reset_and_hazards.md R446; the bit is decision D25, log 16).
That only MFHI and MFLO clear it is C39 (log 16). -/
def Obligations.PendingBitFollowsItsTable : Prop :=
  State.reset.hiloPending = false ∧
  ∀ (i : Instr) (s t : State), exec i s = .next t →
    t.hiloPending =
      match i with
      | .mult ac _ _ | .multu ac _ _ => if ac = 0 then true else s.hiloPending
      | .mfhi _ ac | .mflo _ ac => if ac = 0 then false else s.hiloPending
      | _ => s.hiloPending

/-- The signed adds and subtracts by the (n+1)-bit functions of 40_arithmetic.md R121. R137 is rebuilt by the spec (D16, log 21).
The constants and the inner test of ADDQ_S.W are repaired (C17, log 27).
The modulus of ADDQ.PH and SUBQ.PH is C18 (log 27). -/
def Obligations.SignedAddAndSubtractResults : Prop :=
  ∀ (s : State) (rd rs rt : Reg),
    let x := s.readGpr rs
    let y := s.readGpr rt
    (Enabled s .rev1 → exec (.addqPh rd rs rt) s = .next (toGprFlag s 20 rd (halves printedAddS x y))) ∧
    (Enabled s .rev1 → exec (.addqSPh rd rs rt) s = .next (toGprFlag s 20 rd (halves printedSatAddS x y))) ∧
    (Enabled s .rev1 → exec (.addqSW rd rs rt) s = .next (toGprFlag s 20 rd (printedSatAddS x y))) ∧
    (Enabled s .rev1 → exec (.subqPh rd rs rt) s = .next (toGprFlag s 20 rd (halves printedSubS x y))) ∧
    (Enabled s .rev1 → exec (.subqSPh rd rs rt) s = .next (toGprFlag s 20 rd (halves printedSatSubS x y))) ∧
    (Enabled s .rev1 → exec (.subqSW rd rs rt) s = .next (toGprFlag s 20 rd (printedSatSubS x y)))

/-- The unsigned adds and subtracts by the functions of 40_arithmetic.md R121. SUBU.PH is rs - rt (C15, log 20); ADDU[_S].PH are rebuilt by the spec (D16, log 21). -/
def Obligations.UnsignedAddAndSubtractResults : Prop :=
  ∀ (s : State) (rd rs rt : Reg),
    let x := s.readGpr rs
    let y := s.readGpr rt
    (Enabled s .rev1 → exec (.adduQb rd rs rt) s = .next (toGprFlag s 20 rd (bytes printedAddU x y))) ∧
    (Enabled s .rev1 → exec (.adduSQb rd rs rt) s = .next (toGprFlag s 20 rd (bytes printedSatAddU x y))) ∧
    (Enabled s .rev2 → exec (.adduPh rd rs rt) s = .next (toGprFlag s 20 rd (halves printedAddU x y))) ∧
    (Enabled s .rev2 → exec (.adduSPh rd rs rt) s = .next (toGprFlag s 20 rd (halves printedSatAddU x y))) ∧
    (Enabled s .rev1 → exec (.subuQb rd rs rt) s = .next (toGprFlag s 20 rd (bytes printedSubU x y))) ∧
    (Enabled s .rev1 → exec (.subuSQb rd rs rt) s = .next (toGprFlag s 20 rd (bytes printedSatSubU x y))) ∧
    (Enabled s .rev2 → exec (.subuPh rd rs rt) s = .next (toGprFlag s 20 rd (halves printedSubU x y))) ∧
    (Enabled s .rev2 → exec (.subuSPh rd rs rt) s = .next (toGprFlag s 20 rd (halves printedSatSubU x y)))

/-- The halving forms by the functions of 40_arithmetic.md R121. SUBUH[_R].QB are rebuilt by the spec (D16, log 21).
The SUBQH pages follow their bodies, not their labels (C16, log 27). -/
def Obligations.HalvingAddAndSubtractResults : Prop :=
  ∀ (s : State) (rd rs rt : Reg),
    let x := s.readGpr rs
    let y := s.readGpr rt
    (Enabled s .rev2 → exec (.adduhQb rd rs rt) s = .next (toGpr s rd (bytes (printedHalfAddU false) x y).1)) ∧
    (Enabled s .rev2 → exec (.adduhRQb rd rs rt) s = .next (toGpr s rd (bytes (printedHalfAddU true) x y).1)) ∧
    (Enabled s .rev2 → exec (.addqhPh rd rs rt) s = .next (toGpr s rd (halves (printedHalfAddS false) x y).1)) ∧
    (Enabled s .rev2 → exec (.addqhRPh rd rs rt) s = .next (toGpr s rd (halves (printedHalfAddS true) x y).1)) ∧
    (Enabled s .rev2 → exec (.addqhW rd rs rt) s = .next (toGpr s rd (printedHalfAddS false x y).1)) ∧
    (Enabled s .rev2 → exec (.addqhRW rd rs rt) s = .next (toGpr s rd (printedHalfAddS true x y).1)) ∧
    (Enabled s .rev2 → exec (.subuhQb rd rs rt) s = .next (toGpr s rd (bytes (printedHalfSubU false) x y).1)) ∧
    (Enabled s .rev2 → exec (.subuhRQb rd rs rt) s = .next (toGpr s rd (bytes (printedHalfSubU true) x y).1)) ∧
    (Enabled s .rev2 → exec (.subqhPh rd rs rt) s = .next (toGpr s rd (halves (printedHalfSubS false) x y).1)) ∧
    (Enabled s .rev2 → exec (.subqhRPh rd rs rt) s = .next (toGpr s rd (halves (printedHalfSubS true) x y).1)) ∧
    (Enabled s .rev2 → exec (.subqhW rd rs rt) s = .next (toGpr s rd (printedHalfSubS false x y).1)) ∧
    (Enabled s .rev2 → exec (.subqhRW rd rs rt) s = .next (toGpr s rd (printedHalfSubS true x y).1))

/-- ADDSC and ADDWC (40_arithmetic.md R148, R149; ADDWC is rebuilt by the spec, D16, log 21).
The reading of the lost ADDWC page is in log 28 too. -/
def Obligations.CarryAddResults : Prop :=
  ∀ (s : State) (rd rs rt : Reg),
    let x := s.readGpr rs
    let y := s.readGpr rt
    let u := x.setWidth 33 + y.setWidth 33
    let t := x.signExtend 33 + y.signExtend 33 + (s.dspControl.extractLsb' 13 1).setWidth 33
    (Enabled s .rev1 → exec (.addsc rd rs rt) s = .next ({ toGpr s rd (u.extractLsb' 0 32) with
      dspControl := (s.dspControl &&& 0xFFFFDFFF#32) ||| ((u.extractLsb' 32 1).setWidth 32 <<< 13) })) ∧
    (Enabled s .rev1 → exec (.addwc rd rs rt) s = .next (toGprFlag s 20 rd (t.extractLsb' 0 32, t.getLsbD 32 != t.getLsbD 31)))

/-- The use the spec names for the carry bit (10_state.md R43).
It rests on ADDWC, whose lost Operation the spec rebuilt (D16, logs 21 and 28). -/
def Obligations.AddscThenAddwcAddsSixtyFourBits : Prop :=
  ∀ (s : State) (dl dh al ah bl bh : Reg), Enabled s .rev1 → dl ≠ 0 → dh ≠ 0 → dl ≠ ah → dl ≠ bh → dl ≠ dh →
    ∃ t u : State, exec (.addsc dl al bl) s = .next t ∧ exec (.addwc dh ah bh) t = .next u ∧
      u.readGpr dh ++ u.readGpr dl =
        (s.readGpr ah ++ s.readGpr al) + (s.readGpr bh ++ s.readGpr bl)

/-- MODSUB (R150), RADDU.W.QB (R151), ABSQ_S (R152 to R154) of 40_arithmetic.md.
A line of the ABSQ_S.W page is lost and its constant is short of a digit:
the clause is as the spec rebuilt it (D16, C17, logs 21 and 27). -/
def Obligations.ModsubRadduAndAbsoluteValueResults : Prop :=
  (∀ (s : State) (rd rs rt : Reg), Enabled s .rev1 →
    exec (.modsub rd rs rt) s = .next (toGpr s rd (if s.readGpr rs = 0#32 then ((s.readGpr rt).extractLsb' 8 16).setWidth 32
      else s.readGpr rs - ((s.readGpr rt).extractLsb' 0 8).setWidth 32))) ∧
  ∀ (s : State) (rt rs : Reg),
    let x := s.readGpr rs
    (Enabled s .rev1 → exec (.radduWQb rt rs) s = .next (toGpr s rt (((x.extractLsb' 24 8).setWidth 10 + (x.extractLsb' 16 8).setWidth 10 +
      (x.extractLsb' 8 8).setWidth 10 + (x.extractLsb' 0 8).setWidth 10).setWidth 32))) ∧
    (Enabled s .rev2 → exec (.absqSQb rt rs) s = .next (toGprFlag s 20 rt (bytes (lane printedAbs) x x))) ∧
    (Enabled s .rev1 → exec (.absqSPh rt rs) s = .next (toGprFlag s 20 rt (halves (lane printedAbs) x x))) ∧
    (Enabled s .rev1 → exec (.absqSW rt rs) s = .next (toGprFlag s 20 rt (printedAbs x)))

/-- Reduction and expansion without rounding (41_precision.md). R171 and R172 are rebuilt by the spec (D16, log 21).
The rs half of PRECRQ.PH.W on the left is C19, the zero extension of PRECEU is C20, the operands of the
expansions are those of the figures by C6 (all log 27). -/
def Obligations.PrecisionTruncationAndExpansionResults : Prop :=
  (∀ (s : State) (rd rs rt : Reg),
    let x := s.readGpr rs
    let y := s.readGpr rt
    (Enabled s .rev2 → exec (.precrQbPh rd rs rt) s = .next (toGpr s rd (((x &&& 0x00FF0000#32) <<< 8) ||| ((x &&& 0xFF#32) <<< 16) ||| ((y &&& 0x00FF0000#32) >>> 8) ||| (y &&& 0xFF#32)))) ∧
    (Enabled s .rev1 → exec (.precrqQbPh rd rs rt) s = .next (toGpr s rd ((x &&& 0xFF000000#32) ||| ((x &&& 0xFF00#32) <<< 8) ||| ((y &&& 0xFF000000#32) >>> 16) ||| ((y &&& 0xFF00#32) >>> 8)))) ∧
    (Enabled s .rev1 → exec (.precrqPhW rd rs rt) s = .next (toGpr s rd ((x &&& 0xFFFF0000#32) ||| (y >>> 16))))) ∧
  ∀ (s : State) (rt rs : Reg),
    let x := s.readGpr rs
    (Enabled s .rev1 → exec (.preceqWPhl rt rs) s = .next (toGpr s rt (x &&& 0xFFFF0000#32))) ∧
    (Enabled s .rev1 → exec (.preceqWPhr rt rs) s = .next (toGpr s rt (x <<< 16))) ∧
    (Enabled s .rev1 → exec (.precequPhQbl rt rs) s = .next (toGpr s rt (((x &&& 0xFF000000#32) >>> 1) ||| ((x &&& 0x00FF0000#32) >>> 9)))) ∧
    (Enabled s .rev1 → exec (.precequPhQbr rt rs) s = .next (toGpr s rt (((x &&& 0xFF00#32) <<< 15) ||| ((x &&& 0xFF#32) <<< 7)))) ∧
    (Enabled s .rev1 → exec (.precequPhQbla rt rs) s = .next (toGpr s rt ((x &&& 0xFF00FF00#32) >>> 1))) ∧
    (Enabled s .rev1 → exec (.precequPhQbra rt rs) s = .next (toGpr s rt ((x &&& 0x00FF00FF#32) <<< 7))) ∧
    (Enabled s .rev1 → exec (.preceuPhQbl rt rs) s = .next (toGpr s rt (((x &&& 0xFF000000#32) >>> 8) ||| ((x &&& 0x00FF0000#32) >>> 16)))) ∧
    (Enabled s .rev1 → exec (.preceuPhQbr rt rs) s = .next (toGpr s rt (((x &&& 0xFF00#32) <<< 8) ||| (x &&& 0xFF#32)))) ∧
    (Enabled s .rev1 → exec (.preceuPhQbla rt rs) s = .next (toGpr s rt ((x &&& 0xFF00FF00#32) >>> 8))) ∧
    (Enabled s .rev1 → exec (.preceuPhQbra rt rs) s = .next (toGpr s rt (x &&& 0x00FF00FF#32)))

/-- PRECR_SRA and PRECR_SRA_R (41_precision.md R173, R174). -/
def Obligations.PrecisionReduceAfterShiftResults : Prop :=
  ∀ (s : State) (rt rs : Reg) (sa : Nat), sa < 32 →
    (Enabled s .rev2 → exec (.precrSraPhW rt rs sa) s = .next (toGpr s rt (printedShiftReduce false sa (s.readGpr rt) ++ printedShiftReduce false sa (s.readGpr rs)))) ∧
    (Enabled s .rev2 → exec (.precrSraRPhW rt rs sa) s = .next (toGpr s rt (printedShiftReduce true sa (s.readGpr rt) ++ printedShiftReduce true sa (s.readGpr rs))))

/-- PRECRQ_RS.PH.W and PRECRQU_S.QB.PH (41_precision.md R176, R177).
The constant of PRECRQ_RS is repaired (C17, log 27). -/
def Obligations.PrecisionReduceWithSaturationResults : Prop :=
  ∀ (s : State) (rd rs rt : Reg),
    let x := s.readGpr rs
    let y := s.readGpr rt
    (Enabled s .rev1 → exec (.precrqRsPhW rd rs rt) s = .next (toGprFlag s 22 rd ((printedTruncRound x).1 ++ (printedTruncRound y).1, (printedTruncRound x).2 || (printedTruncRound y).2))) ∧
    (Enabled s .rev1 →
      let d := printedReduce (x.extractLsb' 16 16)
      let c := printedReduce (x.extractLsb' 0 16)
      let b := printedReduce (y.extractLsb' 16 16)
      let a := printedReduce (y.extractLsb' 0 16)
      exec (.precrquSQbPh rd rs rt) s = .next (toGprFlag s 22 rd (d.1 ++ c.1 ++ b.1 ++ a.1, d.2 || c.2 || b.2 || a.2)))

/-- The left shifts by the printed discard tests (42_shift.md R223 to R226; R223 and R226 are rebuilt by the spec, D16, log 21).
The operands follow C6 and C22 (log 27). -/
def Obligations.LeftShiftResults : Prop :=
  (∀ (s : State) (rt rs : Reg) (sa : Nat),
    (sa < 8 → Enabled s .rev1 → exec (.shllQb rt rs sa) s = .next (toGprFlag s 22 rt (bytes (lane (printedShift8Left sa)) (s.readGpr rs) (s.readGpr rs)))) ∧
    (sa < 16 → Enabled s .rev1 → exec (.shllPh rt rs sa) s = .next (toGprFlag s 22 rt (halves (lane (printedShift16Left sa)) (s.readGpr rs) (s.readGpr rs)))) ∧
    (sa < 16 → Enabled s .rev1 → exec (.shllSPh rt rs sa) s = .next (toGprFlag s 22 rt (halves (lane (printedSatShiftLeft sa)) (s.readGpr rs) (s.readGpr rs)))) ∧
    (sa < 32 → Enabled s .rev1 → exec (.shllSW rt rs sa) s = .next (toGprFlag s 22 rt (lane (printedSatShiftLeft sa) (s.readGpr rs) (s.readGpr rs))))) ∧
  (∀ (s : State) (rd rt rs : Reg),
    (Enabled s .rev1 → exec (.shllvQb rd rt rs) s = .next (toGprFlag s 22 rd (bytes (lane (printedShift8Left ((s.readGpr rs).extractLsb' 0 3).toNat)) (s.readGpr rt) (s.readGpr rt)))) ∧
    (Enabled s .rev1 → exec (.shllvPh rd rt rs) s = .next (toGprFlag s 22 rd (halves (lane (printedShift16Left ((s.readGpr rs).extractLsb' 0 4).toNat)) (s.readGpr rt) (s.readGpr rt)))) ∧
    (Enabled s .rev1 → exec (.shllvSPh rd rt rs) s = .next (toGprFlag s 22 rd (halves (lane (printedSatShiftLeft ((s.readGpr rs).extractLsb' 0 4).toNat)) (s.readGpr rt) (s.readGpr rt)))) ∧
    (Enabled s .rev1 → exec (.shllvSW rd rt rs) s = .next (toGprFlag s 22 rd (lane (printedSatShiftLeft ((s.readGpr rs).extractLsb' 0 5).toNat) (s.readGpr rt) (s.readGpr rt)))))

/-- The right shifts without rounding (42_shift.md R227, R228; R227 is the spec's, D16, log 21).
SHRL.QB (R209) has its Operation rebuilt (R200(g), D16, log 21), and the operands follow
C6 and C22 (log 27). -/
def Obligations.RightShiftResults : Prop :=
  (∀ (s : State) (rt rs : Reg) (sa : Nat),
    (sa < 8 → Enabled s .rev1 → exec (.shrlQb rt rs sa) s = .next (toGpr s rt (bytes (quiet (quotientU sa)) (s.readGpr rs) (s.readGpr rs)).1)) ∧
    (sa < 16 → Enabled s .rev2 → exec (.shrlPh rt rs sa) s = .next (toGpr s rt (halves (quiet (quotientU sa)) (s.readGpr rs) (s.readGpr rs)).1)) ∧
    (sa < 8 → Enabled s .rev2 → exec (.shraQb rt rs sa) s = .next (toGpr s rt (bytes (quiet (quotientS sa)) (s.readGpr rs) (s.readGpr rs)).1)) ∧
    (sa < 16 → Enabled s .rev1 → exec (.shraPh rt rs sa) s = .next (toGpr s rt (halves (quiet (quotientS sa)) (s.readGpr rs) (s.readGpr rs)).1))) ∧
  (∀ (s : State) (rd rt rs : Reg),
    (Enabled s .rev1 → exec (.shrlvQb rd rt rs) s = .next (toGpr s rd (bytes (quiet (quotientU ((s.readGpr rs).extractLsb' 0 3).toNat)) (s.readGpr rt) (s.readGpr rt)).1)) ∧
    (Enabled s .rev2 → exec (.shrlvPh rd rt rs) s = .next (toGpr s rd (halves (quiet (quotientU ((s.readGpr rs).extractLsb' 0 4).toNat)) (s.readGpr rt) (s.readGpr rt)).1)) ∧
    (Enabled s .rev2 → exec (.shravQb rd rt rs) s = .next (toGpr s rd (bytes (quiet (quotientS ((s.readGpr rs).extractLsb' 0 3).toNat)) (s.readGpr rt) (s.readGpr rt)).1)) ∧
    (Enabled s .rev1 → exec (.shravPh rd rt rs) s = .next (toGpr s rd (halves (quiet (quotientS ((s.readGpr rs).extractLsb' 0 4).toNat)) (s.readGpr rt) (s.readGpr rt)).1)))

/-- The rounding right shifts as printed (42_shift.md R229). R216 and R220 are rebuilt by the spec (D16, log 21).
The zero test and the temporaries of SHRA_R.QB (R214) are repaired too (D16, log 21), that rs is the
source of SHRA_R.W is C21 and the operands of SHRA_R.PH are C22 (both log 27). -/
def Obligations.RoundingRightShiftResults : Prop :=
  (∀ (s : State) (rt rs : Reg) (sa : Nat),
    (sa < 8 → Enabled s .rev2 → exec (.shraRQb rt rs sa) s = .next (toGpr s rt (bytes (quiet (printedRoundShift sa)) (s.readGpr rs) (s.readGpr rs)).1)) ∧
    (sa < 16 → Enabled s .rev1 → exec (.shraRPh rt rs sa) s = .next (toGpr s rt (halves (quiet (printedRoundShift sa)) (s.readGpr rs) (s.readGpr rs)).1)) ∧
    (sa < 32 → Enabled s .rev1 → exec (.shraRW rt rs sa) s = .next (toGpr s rt (quiet (printedRoundShift sa) (s.readGpr rs) (s.readGpr rs)).1))) ∧
  (∀ (s : State) (rd rt rs : Reg),
    (Enabled s .rev2 → exec (.shravRQb rd rt rs) s = .next (toGpr s rd (bytes (quiet (printedRoundShift ((s.readGpr rs).extractLsb' 0 3).toNat)) (s.readGpr rt) (s.readGpr rt)).1)) ∧
    (Enabled s .rev1 → exec (.shravRPh rd rt rs) s = .next (toGpr s rd (halves (quiet (printedRoundShift ((s.readGpr rs).extractLsb' 0 4).toNat)) (s.readGpr rt) (s.readGpr rt)).1)) ∧
    (Enabled s .rev1 → exec (.shravRW rd rt rs) s = .next (toGpr s rd (quiet (printedRoundShift ((s.readGpr rs).extractLsb' 0 5).toNat) (s.readGpr rt) (s.readGpr rt)).1)))

/-- The arithmetic right shifts of a lane (42_shift.md R228), both forms of the rule. -/
def Obligations.ArithmeticShiftIsFloorDivision : Prop :=
  (∀ (a : BitVec 16) (s : Nat), s < 16 →
    (∀ k, k < 16 → (shiftRightArithmetic s a).getLsbD k = if k + s < 16 then a.getLsbD (k + s) else a.getLsbD 15) ∧
    (shiftRightArithmetic s a).toInt = a.toInt / ((2 ^ s : Nat) : Int)) ∧
  (∀ (a : BitVec 8) (s : Nat), s < 8 →
    (∀ k, k < 8 → (shiftRightArithmetic s a).getLsbD k = if k + s < 8 then a.getLsbD (k + s) else a.getLsbD 7) ∧
    (shiftRightArithmetic s a).toInt = a.toInt / ((2 ^ s : Nat) : Int))

/-- The rounding right shifts of a lane (42_shift.md R229), printed form and closed form. -/
def Obligations.RoundingShiftIsPrintedAndClosedForm : Prop :=
  (∀ (a : BitVec 8) (s : Nat), s < 8 →
    rndShiftRightArithmetic s a =
      (if s = 0 then a ++ 0#1 else (a ++ 0#1).sshiftRight s + 1#9).extractLsb' 1 8 ∧
    (rndShiftRightArithmetic s a).toInt =
      if s = 0 then a.toInt else (a.toInt + ((2 ^ (s - 1) : Nat) : Int)) / ((2 ^ s : Nat) : Int)) ∧
  (∀ (a : BitVec 16) (s : Nat), s < 16 → rndShiftRightArithmetic s a = printedRoundShift s a ∧
    (rndShiftRightArithmetic s a).toInt =
      if s = 0 then a.toInt else (a.toInt + ((2 ^ (s - 1) : Nat) : Int)) / ((2 ^ s : Nat) : Int)) ∧
  (∀ (a : BitVec 32) (s : Nat), s < 32 → rndShiftRightArithmetic s a = printedRoundShift s a ∧
    (rndShiftRightArithmetic s a).toInt =
      if s = 0 then a.toInt else (a.toInt + ((2 ^ (s - 1) : Nat) : Int)) / ((2 ^ s : Nat) : Int))

/-- The halfword left shifts (42_shift.md R224, R225), printed form and closed form. -/
def Obligations.HalfwordLeftShiftFlagIsTheDiscardTest : Prop :=
  ∀ (a : BitVec 16) (s : Nat), s < 16 →
    let p : Int := a.toInt * ((2 ^ s : Nat) : Int)
    let mixed := if s = 0 then false else discardMixed s a
    shift16Left s a = (a <<< s, mixed) ∧
    (mixed = true ↔ ¬ ∀ k, 15 - s ≤ k → k ≤ 15 → a.getLsbD k = a.getLsbD 15) ∧
    (mixed = true ↔ p < -32768 ∨ 32767 < p) ∧
    sat16ShiftLeft s a = (if mixed then (if a.getLsbD 15 then 0x8000#16 else 0x7FFF#16) else a <<< s, mixed) ∧
    (32767 < p → sat16ShiftLeft s a = (0x7FFF#16, true)) ∧ (p < -32768 → sat16ShiftLeft s a = (0x8000#16, true)) ∧
    (-32768 ≤ p → p ≤ 32767 → sat16ShiftLeft s a = (BitVec.ofInt 16 p, false))

/-- MULEU_S (43_multiply_gpr.md R241, R242, R251, rebuilt by the spec, D16, log 21); ac0 by R240(d).
The free values of ac0 are the model's form of UNPREDICTABLE (D3, log 14). -/
def Obligations.UnsignedByteByHalfwordProducts : Prop :=
  ∀ (s : State) (rd rs rt : Reg),
    let x := s.readGpr rs
    let y := s.readGpr rt
    (Enabled s .rev1 → ∃ t, exec (.muleuSPhQbl rd rs rt) s = .next t ∧ ToGprFreeAc0 s rd ((let b := printedMulU8U16 (x.extractLsb' 24 8) (y.extractLsb' 16 16); let a := printedMulU8U16 (x.extractLsb' 16 8) (y.extractLsb' 0 16); (b.1 ++ a.1, b.2 || a.2)) : Word × Bool) t) ∧
    (Enabled s .rev1 → ∃ t, exec (.muleuSPhQbr rd rs rt) s = .next t ∧ ToGprFreeAc0 s rd ((let b := printedMulU8U16 (x.extractLsb' 8 8) (y.extractLsb' 16 16); let a := printedMulU8U16 (x.extractLsb' 0 8) (y.extractLsb' 0 16); (b.1 ++ a.1, b.2 || a.2)) : Word × Bool) t)

/-- The Q15 multiplies (43_multiply_gpr.md R243 to R245, R248).
The constant of MULEQ_S is repaired (C17, log 27); ac0 is a free value (D3, log 14). -/
def Obligations.FractionalHalfwordProducts : Prop :=
  ∀ (s : State) (rd rs rt : Reg),
    let x := s.readGpr rs
    let y := s.readGpr rt
    (Enabled s .rev1 → ∃ t, exec (.mulqRsPh rd rs rt) s = .next t ∧ ToGprFreeAc0 s rd (halves (printedQ15High 0x8000#32) x y) t) ∧
    (Enabled s .rev2 → ∃ t, exec (.mulqSPh rd rs rt) s = .next t ∧ ToGprFreeAc0 s rd (halves (printedQ15High 0#32) x y) t) ∧
    (Enabled s .rev1 → ∃ t, exec (.muleqSWPhl rd rs rt) s = .next t ∧ ToGprFreeAc0 s rd (printedQ15 0x7FFFFFFF#32 0#32 (x.extractLsb' 16 16) (y.extractLsb' 16 16)) t) ∧
    (Enabled s .rev1 → ∃ t, exec (.muleqSWPhr rd rs rt) s = .next t ∧ ToGprFreeAc0 s rd (printedQ15 0x7FFFFFFF#32 0#32 (x.extractLsb' 0 16) (y.extractLsb' 0 16)) t)

/-- MUL[_S].PH and MULQ_[R]S.W (43_multiply_gpr.md R246, R247, R249, R250); that MUL.PH flags follows C23 (log 27).
The head of the MUL[_S].PH Operation is rebuilt by the spec (R240(g), D16, log 21),
the Q31 constants are repaired (C17, log 27), and ac0 is a free value (D3, log 14). -/
def Obligations.IntegerHalfwordAndQ31WordProducts : Prop :=
  ∀ (s : State) (rd rs rt : Reg),
    let x := s.readGpr rs
    let y := s.readGpr rt
    (Enabled s .rev2 → ∃ t, exec (.mulPh rd rs rt) s = .next t ∧ ToGprFreeAc0 s rd (halves (printedMulI16 false) x y) t) ∧
    (Enabled s .rev2 → ∃ t, exec (.mulSPh rd rs rt) s = .next t ∧ ToGprFreeAc0 s rd (halves (printedMulI16 true) x y) t) ∧
    (Enabled s .rev2 → ∃ t, exec (.mulqSW rd rs rt) s = .next t ∧ ToGprFreeAc0 s rd ((printedQ31 0x7FFFFFFF00000000#64 0#64 x y).1.extractLsb' 32 32, (printedQ31 0x7FFFFFFF00000000#64 0#64 x y).2) t) ∧
    (Enabled s .rev2 → ∃ t, exec (.mulqRsW rd rs rt) s = .next t ∧ ToGprFreeAc0 s rd ((printedQ31 0x7FFFFFFF00000000#64 0x80000000#64 x y).1.extractLsb' 32 32, (printedQ31 0x7FFFFFFF00000000#64 0x80000000#64 x y).2) t)

/-- The clobber of ac0 (70_reset_and_hazards.md R447). That they are two draws of Config.freeWord at the counter is the
model's form of UNPREDICTABLE (D3, logs 7 and 14). -/
def Obligations.GprMultipliesLeaveAc0FreeAndTheOthersAlone : Prop :=
  ∀ (s t : State) (rd rs rt : Reg) (i : Instr),
    i ∈ [Instr.mulPh rd rs rt, .mulSPh rd rs rt, .mulqSPh rd rs rt, .mulqRsPh rd rs rt, .mulqSW rd rs rt, .mulqRsW rd rs rt,
      .muleqSWPhl rd rs rt, .muleqSWPhr rd rs rt, .muleuSPhQbl rd rs rt, .muleuSPhQbr rd rs rt] →
    exec i s = .next t →
    t.readHi 0 = Config.freeWord s.draws ∧ t.readLo 0 = Config.freeWord (s.draws + 1) ∧
    t.acc 1 = s.acc 1 ∧ t.acc 2 = s.acc 2 ∧ t.acc 3 = s.acc 3

/-- The integer dot products (44_multiply_acc.md R262 to R267, R271, R272, R283).
The body of multiplyU8U8 and the accumulate line of DPAU.H.QBL are rebuilt by the
spec (R260(i), D16, log 21), and DPAU.H.QBR multiplies rs by rt (C24, log 27). -/
def Obligations.IntegerDotProductResults : Prop :=
  ∀ (s : State) (ac : Acc) (rs rt : Reg),
    let x := s.readGpr rs
    let y := s.readGpr rt
    let c := s.acc ac
    (Enabled s .rev1 → exec (.dpauHQbl ac rs rt) s = .next (toAcc s ac (c + dotU (x.extractLsb' 24 8) (y.extractLsb' 24 8) (x.extractLsb' 16 8) (y.extractLsb' 16 8)))) ∧
    (Enabled s .rev1 → exec (.dpauHQbr ac rs rt) s = .next (toAcc s ac (c + dotU (x.extractLsb' 8 8) (y.extractLsb' 8 8) (x.extractLsb' 0 8) (y.extractLsb' 0 8)))) ∧
    (Enabled s .rev1 → exec (.dpsuHQbl ac rs rt) s = .next (toAcc s ac (c - dotU (x.extractLsb' 24 8) (y.extractLsb' 24 8) (x.extractLsb' 16 8) (y.extractLsb' 16 8)))) ∧
    (Enabled s .rev1 → exec (.dpsuHQbr ac rs rt) s = .next (toAcc s ac (c - dotU (x.extractLsb' 8 8) (y.extractLsb' 8 8) (x.extractLsb' 0 8) (y.extractLsb' 0 8)))) ∧
    (Enabled s .rev2 → exec (.dpaWPh ac rs rt) s = .next (toAcc s ac (c + dotS (x.extractLsb' 16 16) (y.extractLsb' 16 16) (x.extractLsb' 0 16) (y.extractLsb' 0 16)))) ∧
    (Enabled s .rev2 → exec (.dpaxWPh ac rs rt) s = .next (toAcc s ac (c + dotS (x.extractLsb' 16 16) (y.extractLsb' 0 16) (x.extractLsb' 0 16) (y.extractLsb' 16 16)))) ∧
    (Enabled s .rev2 → exec (.dpsWPh ac rs rt) s = .next (toAcc s ac (c - dotS (x.extractLsb' 16 16) (y.extractLsb' 16 16) (x.extractLsb' 0 16) (y.extractLsb' 0 16)))) ∧
    (Enabled s .rev2 → exec (.dpsxWPh ac rs rt) s = .next (toAcc s ac (c - dotS (x.extractLsb' 16 16) (y.extractLsb' 0 16) (x.extractLsb' 0 16) (y.extractLsb' 16 16)))) ∧
    (Enabled s .rev2 → exec (.mulsaWPh ac rs rt) s = .next (toAcc s ac (c + (((x.extractLsb' 16 16).signExtend 32 * (y.extractLsb' 16 16).signExtend 32).signExtend 33 -
      ((x.extractLsb' 0 16).signExtend 32 * (y.extractLsb' 0 16).signExtend 32).signExtend 33).signExtend 64)))

/-- The fractional dot products (44_multiply_acc.md R268, R269, R273, R274, R276).
The body of multiplyQ15Q15 on the DPAQX_S.W.PH page is rebuilt by the spec
(R260(i), D16, log 21), and the constants are repaired (C17, log 27). -/
def Obligations.FractionalDotProductResults : Prop :=
  ∀ (s : State) (ac : Acc) (rs rt : Reg),
    let x := s.readGpr rs
    let y := s.readGpr rt
    let c := s.acc ac
    (Enabled s .rev1 → exec (.dpaqSWPh ac rs rt) s = .next (toAccFlag s ac (c + (dotQ (x.extractLsb' 16 16) (y.extractLsb' 16 16) (x.extractLsb' 0 16) (y.extractLsb' 0 16)).1, (dotQ (x.extractLsb' 16 16) (y.extractLsb' 16 16) (x.extractLsb' 0 16) (y.extractLsb' 0 16)).2))) ∧
    (Enabled s .rev2 → exec (.dpaqxSWPh ac rs rt) s = .next (toAccFlag s ac (c + (dotQ (x.extractLsb' 16 16) (y.extractLsb' 0 16) (x.extractLsb' 0 16) (y.extractLsb' 16 16)).1, (dotQ (x.extractLsb' 16 16) (y.extractLsb' 0 16) (x.extractLsb' 0 16) (y.extractLsb' 16 16)).2))) ∧
    (Enabled s .rev1 → exec (.dpsqSWPh ac rs rt) s = .next (toAccFlag s ac (c - (dotQ (x.extractLsb' 16 16) (y.extractLsb' 16 16) (x.extractLsb' 0 16) (y.extractLsb' 0 16)).1, (dotQ (x.extractLsb' 16 16) (y.extractLsb' 16 16) (x.extractLsb' 0 16) (y.extractLsb' 0 16)).2))) ∧
    (Enabled s .rev2 → exec (.dpsqxSWPh ac rs rt) s = .next (toAccFlag s ac (c - (dotQ (x.extractLsb' 16 16) (y.extractLsb' 0 16) (x.extractLsb' 0 16) (y.extractLsb' 16 16)).1, (dotQ (x.extractLsb' 16 16) (y.extractLsb' 0 16) (x.extractLsb' 0 16) (y.extractLsb' 16 16)).2))) ∧
    (Enabled s .rev1 → exec (.mulsaqSWPh ac rs rt) s = .next (toAccFlag s ac (c + ((printedQ15 0x7FFFFFFF#32 0#32 (x.extractLsb' 16 16) (y.extractLsb' 16 16)).1.signExtend 64 - (printedQ15 0x7FFFFFFF#32 0#32 (x.extractLsb' 0 16) (y.extractLsb' 0 16)).1.signExtend 64),
      (printedQ15 0x7FFFFFFF#32 0#32 (x.extractLsb' 16 16) (y.extractLsb' 16 16)).2 || (printedQ15 0x7FFFFFFF#32 0#32 (x.extractLsb' 0 16) (y.extractLsb' 0 16)).2)))

/-- Saturating accumulates (44_multiply_acc.md R261(e), (f), R270, R275, R277, R278).
On the DPAQ_SA.L.W page multiplyQ31Q31 is recovered from the DPSQ_SA.L.W page
(R260(i), D16, log 21), that its product is sign-extended is the spec's inference (R277, log 21), and the constants are repaired (C17, log 27). -/
def Obligations.SaturatingAccumulateResults : Prop :=
  ∀ (s : State) (ac : Acc) (rs rt : Reg),
    let x := s.readGpr rs
    let y := s.readGpr rt
    let c := s.acc ac
    let q := dotQ (x.extractLsb' 16 16) (y.extractLsb' 0 16) (x.extractLsb' 0 16) (y.extractLsb' 16 16)
    let d := printedQ31 0x7FFFFFFFFFFFFFFF#64 0#64 x y
    (Enabled s .rev2 → exec (.dpaqxSaWPh ac rs rt) s = .next (toAccFlag s ac ((printedSatAcc (c + q.1)).1, q.2 || (printedSatAcc (c + q.1)).2))) ∧
    (Enabled s .rev2 → exec (.dpsqxSaWPh ac rs rt) s = .next (toAccFlag s ac ((printedSatAcc (c - q.1)).1, q.2 || (printedSatAcc (c - q.1)).2))) ∧
    (Enabled s .rev1 → exec (.dpaqSaLW ac rs rt) s = .next (toAccFlag s ac ((printedSat64 (c.signExtend 65 + d.1.signExtend 65)).1,
      d.2 || (printedSat64 (c.signExtend 65 + d.1.signExtend 65)).2))) ∧
    (Enabled s .rev1 → exec (.dpsqSaLW ac rs rt) s = .next (toAccFlag s ac ((printedSat64 (c.signExtend 65 - d.1.signExtend 65)).1,
      d.2 || (printedSat64 (c.signExtend 65 - d.1.signExtend 65)).2)))

/-- MAQ_S and MAQ_SA (44_multiply_acc.md R279 to R282; the constants of R261(d) follow the prose, C25, log 27).
The constants printed short of a digit are repaired (C17, log 27). -/
def Obligations.SingleProductAccumulateResults : Prop :=
  ∀ (s : State) (ac : Acc) (rs rt : Reg),
    let x := s.readGpr rs
    let y := s.readGpr rt
    let c := s.acc ac
    (Enabled s .rev1 → exec (.maqSWPhl ac rs rt) s = .next (toAccFlag s ac (c + (printedQ15 0x7FFFFFFF#32 0#32 (x.extractLsb' 16 16) (y.extractLsb' 16 16)).1.signExtend 64, (printedQ15 0x7FFFFFFF#32 0#32 (x.extractLsb' 16 16) (y.extractLsb' 16 16)).2))) ∧
    (Enabled s .rev1 → exec (.maqSWPhr ac rs rt) s = .next (toAccFlag s ac (c + (printedQ15 0x7FFFFFFF#32 0#32 (x.extractLsb' 0 16) (y.extractLsb' 0 16)).1.signExtend 64, (printedQ15 0x7FFFFFFF#32 0#32 (x.extractLsb' 0 16) (y.extractLsb' 0 16)).2))) ∧
    (Enabled s .rev1 → exec (.maqSaWPhl ac rs rt) s = .next (toAccFlag s ac ((printedSat32Acc c (printedQ15 0x7FFFFFFF#32 0#32 (x.extractLsb' 16 16) (y.extractLsb' 16 16)).1).1, (printedQ15 0x7FFFFFFF#32 0#32 (x.extractLsb' 16 16) (y.extractLsb' 16 16)).2 || (printedSat32Acc c (printedQ15 0x7FFFFFFF#32 0#32 (x.extractLsb' 16 16) (y.extractLsb' 16 16)).1).2))) ∧
    (Enabled s .rev1 → exec (.maqSaWPhr ac rs rt) s = .next (toAccFlag s ac ((printedSat32Acc c (printedQ15 0x7FFFFFFF#32 0#32 (x.extractLsb' 0 16) (y.extractLsb' 0 16)).1).1, (printedQ15 0x7FFFFFFF#32 0#32 (x.extractLsb' 0 16) (y.extractLsb' 0 16)).2 || (printedSat32Acc c (printedQ15 0x7FFFFFFF#32 0#32 (x.extractLsb' 0 16) (y.extractLsb' 0 16)).1).2)))

/-- The word multiplies (44_multiply_acc.md R284 to R289; hilo_pending is decision D25, log 16).
That the check is made for ac0 too, at Rev1, is a choice of the spec (D6, D17, C14, log 17).
That MSUBU subtracts is C26 (log 27). -/
def Obligations.WordMultiplyAccumulateResults : Prop :=
  ∀ (s : State) (ac : Acc) (rs rt : Reg),
    let x := s.readGpr rs
    let y := s.readGpr rt
    let c := s.acc ac
    (Enabled s .rev1 → exec (.madd ac rs rt) s = .next (toAcc s ac (c + x.signExtend 64 * y.signExtend 64))) ∧
    (Enabled s .rev1 → exec (.maddu ac rs rt) s = .next (toAcc s ac (c + x.setWidth 64 * y.setWidth 64))) ∧
    (Enabled s .rev1 → exec (.msub ac rs rt) s = .next (toAcc s ac (c - x.signExtend 64 * y.signExtend 64))) ∧
    (Enabled s .rev1 → exec (.msubu ac rs rt) s = .next (toAcc s ac (c - x.setWidth 64 * y.setWidth 64))) ∧
    (Enabled s .rev1 → exec (.mult ac rs rt) s = .next ({ toAcc s ac (x.signExtend 64 * y.signExtend 64) with hiloPending := if ac = 0 then true else s.hiloPending })) ∧
    (Enabled s .rev1 → exec (.multu ac rs rt) s = .next ({ toAcc s ac (x.setWidth 64 * y.setWidth 64) with hiloPending := if ac = 0 then true else s.hiloPending }))

/-- BITREV and INSV (45_bitmanip.md R311, R312; the split of the two UNPREDICTABLE cases is D3, log 13).
The fields of INSV are the 6-bit ones of DSPControl (C27, log 27). -/
def Obligations.BitReverseAndInsertResults : Prop :=
  ∀ (s : State) (rt rs : Reg), Enabled s .rev1 →
    let pos := (s.dspControl.extractLsb' 0 6).toNat
    let size := (s.dspControl.extractLsb' 7 6).toNat
    (∃ v : Word, exec (.bitrev rt rs) s = .next (toGpr s rt v) ∧
      ∀ i, i < 32 → v.getLsbD i = (decide (i < 16) && (s.readGpr rs).getLsbD (15 - i))) ∧
    (0 < size → pos + size ≤ 32 → ∃ v : Word, exec (.insv rt rs) s = .next (toGpr s rt v) ∧
      ∀ i, i < 32 → v.getLsbD i =
        if pos ≤ i ∧ i < pos + size then (s.readGpr rs).getLsbD (i - pos) else (s.readGpr rt).getLsbD i) ∧
    (0 < size → 32 < pos + size → ∃ (v : Word) (t : State), exec (.insv rt rs) s = .next t ∧
      t = { toGpr s rt v with draws := t.draws })

/-- The replications (45_bitmanip.md R313 to R316).
The destination of REPL.PH is rt by the figure (C8), the immediate of REPL.QB has 8 bits (C10, both log 27). -/
def Obligations.ReplicateResults : Prop :=
  (∀ (s : State) (rt : Reg) (imm : Nat), imm < 256 → Enabled s .rev1 →
    exec (.replQb rt imm) s = .next (toGpr s rt (BitVec.ofNat 32 (imm * 0x01010101)))) ∧
  (∀ (s : State) (rt : Reg) (imm : Int), -512 ≤ imm → imm ≤ 511 → Enabled s .rev1 →
    exec (.replPh rt imm) s = .next (toGpr s rt ((BitVec.ofInt 10 imm).signExtend 16 ++ (BitVec.ofInt 10 imm).signExtend 16))) ∧
  (∀ (s : State) (rt rs : Reg), Enabled s .rev1 →
    exec (.replvQb rt rs) s = .next (toGpr s rt (((s.readGpr rs) &&& 0xFF#32) * 0x01010101#32)) ∧
    exec (.replvPh rt rs) s = .next (toGpr s rt (((s.readGpr rs) &&& 0xFFFF#32) * 0x00010001#32)))

/-- The unsigned byte compares (46_compare_pick.md R321 to R329).
The blocks of CMPGDU.LT.QB and CMPGDU.LE.QB are garbled on the page and rebuilt by the spec
(R320(g), R325, R326, D16, log 21). -/
def Obligations.UnsignedByteCompareResults : Prop :=
  (∀ (s : State) (rs rt : Reg),
    (Enabled s .rev1 → exec (.cmpuEqQb rs rt) s = .next ({ s with pc := s.pc + 4#32, dspControl := withCcond s.dspControl (compareBytes (fun a b => a == b) (s.readGpr rs) (s.readGpr rt)) })) ∧
    (Enabled s .rev1 → exec (.cmpuLtQb rs rt) s = .next ({ s with pc := s.pc + 4#32, dspControl := withCcond s.dspControl (compareBytes (fun a b => a.ult b) (s.readGpr rs) (s.readGpr rt)) })) ∧
    (Enabled s .rev1 → exec (.cmpuLeQb rs rt) s = .next ({ s with pc := s.pc + 4#32, dspControl := withCcond s.dspControl (compareBytes (fun a b => !(b.ult a)) (s.readGpr rs) (s.readGpr rt)) }))) ∧
  (∀ (s : State) (rd rs rt : Reg),
    (Enabled s .rev2 → exec (.cmpgduEqQb rd rs rt) s = .next ({ toGpr s rd ((compareBytes (fun a b => a == b) (s.readGpr rs) (s.readGpr rt)).setWidth 32) with dspControl := withCcond s.dspControl (compareBytes (fun a b => a == b) (s.readGpr rs) (s.readGpr rt)) })) ∧
    (Enabled s .rev2 → exec (.cmpgduLtQb rd rs rt) s = .next ({ toGpr s rd ((compareBytes (fun a b => a.ult b) (s.readGpr rs) (s.readGpr rt)).setWidth 32) with dspControl := withCcond s.dspControl (compareBytes (fun a b => a.ult b) (s.readGpr rs) (s.readGpr rt)) })) ∧
    (Enabled s .rev2 → exec (.cmpgduLeQb rd rs rt) s = .next ({ toGpr s rd ((compareBytes (fun a b => !(b.ult a)) (s.readGpr rs) (s.readGpr rt)).setWidth 32) with dspControl := withCcond s.dspControl (compareBytes (fun a b => !(b.ult a)) (s.readGpr rs) (s.readGpr rt)) })) ∧
    (Enabled s .rev1 → exec (.cmpguEqQb rd rs rt) s = .next (toGpr s rd ((compareBytes (fun a b => a == b) (s.readGpr rs) (s.readGpr rt)).setWidth 32))) ∧
    (Enabled s .rev1 → exec (.cmpguLtQb rd rs rt) s = .next (toGpr s rd ((compareBytes (fun a b => a.ult b) (s.readGpr rs) (s.readGpr rt)).setWidth 32))) ∧
    (Enabled s .rev1 → exec (.cmpguLeQb rd rs rt) s = .next (toGpr s rd ((compareBytes (fun a b => !(b.ult a)) (s.readGpr rs) (s.readGpr rt)).setWidth 32))))

/-- The signed halfword compares (46_compare_pick.md R330 to R332); bits 27:26 are UNPREDICTABLE (R320(d), log 14).
The line of CMP.EQ.PH that leaves them so is rebuilt by the spec (R320(g), D16, log 21). -/
def Obligations.SignedHalfwordCompareResults : Prop :=
  ∀ (s : State) (rs rt : Reg), Enabled s .rev1 →
    (∃ (u : BitVec 2) (t : State), exec (.cmpEqPh rs rt) s = .next t ∧
      t = { s with
        pc := s.pc + 4#32, draws := t.draws,
        dspControl := withCcond s.dspControl (u ++ compareHalves (fun a b => a == b) (s.readGpr rs) (s.readGpr rt)) }) ∧
    (∃ (u : BitVec 2) (t : State), exec (.cmpLtPh rs rt) s = .next t ∧
      t = { s with
        pc := s.pc + 4#32, draws := t.draws,
        dspControl := withCcond s.dspControl (u ++ compareHalves (fun a b => a.slt b) (s.readGpr rs) (s.readGpr rt)) }) ∧
    (∃ (u : BitVec 2) (t : State), exec (.cmpLePh rs rt) s = .next t ∧
      t = { s with
        pc := s.pc + 4#32, draws := t.draws,
        dspControl := withCcond s.dspControl (u ++ compareHalves (fun a b => !(b.slt a)) (s.readGpr rs) (s.readGpr rt)) })

/-- PICK and PACKRL (46_compare_pick.md R333, R334, R338; R333 is rebuilt by the spec, D16, log 21). -/
def Obligations.PickAndPackResults : Prop :=
  ∀ (s : State) (rd rs rt : Reg), Enabled s .rev1 →
    (∃ v : Word, exec (.pickQb rd rs rt) s = .next (toGpr s rd v) ∧ ∀ k, k < 32 →
      v.getLsbD k = if s.dspControl.getLsbD (24 + k / 8) then (s.readGpr rs).getLsbD k else (s.readGpr rt).getLsbD k) ∧
    (∃ v : Word, exec (.pickPh rd rs rt) s = .next (toGpr s rd v) ∧ ∀ k, k < 32 →
      v.getLsbD k = if s.dspControl.getLsbD (24 + k / 16) then (s.readGpr rs).getLsbD k else (s.readGpr rt).getLsbD k) ∧
    exec (.packrlPh rd rs rt) s = .next (toGpr s rd ((s.readGpr rs <<< 16) ||| (s.readGpr rt >>> 16)))

/-- The word extractions (47_acc_dspcontrol.md R351 to R353, R356 to R359; the negative clamp follows C34, log 27).
The positive-clamp line of EXTR_RS.W and EXTRV_RS.W is rebuilt by the spec
(R350(h), D16, log 21), the 33-bit constant is repaired (C17, log 27), and the amount of EXTRV is rs[4:0] (C32, log 27).
The destination of EXTR.W is rt (C31) and the shift is arithmetic (C33, both log 27). -/
def Obligations.WordExtractionResults : Prop :=
  (∀ (s : State) (rt : Reg) (ac : Acc) (shift : Nat), shift < 32 → Enabled s .rev1 →
    exec (.extrW rt ac shift) s = .next (toGprFlag s 23 rt (printedExtr (s.acc ac) shift)) ∧
    exec (.extrRW rt ac shift) s = .next (toGprFlag s 23 rt (printedExtrR (s.acc ac) shift)) ∧
    exec (.extrRsW rt ac shift) s = .next (toGprFlag s 23 rt (printedExtrRS (s.acc ac) shift))) ∧
  (∀ (s : State) (rt : Reg) (ac : Acc) (rs : Reg), Enabled s .rev1 →
    exec (.extrvW rt ac rs) s = .next (toGprFlag s 23 rt (printedExtr (s.acc ac) ((s.readGpr rs).extractLsb' 0 5).toNat)) ∧
    exec (.extrvRW rt ac rs) s = .next (toGprFlag s 23 rt (printedExtrR (s.acc ac) ((s.readGpr rs).extractLsb' 0 5).toNat)) ∧
    exec (.extrvRsW rt ac rs) s = .next (toGprFlag s 23 rt (printedExtrRS (s.acc ac) ((s.readGpr rs).extractLsb' 0 5).toNat)))

/-- The halfword extractions (47_acc_dspcontrol.md R354, R355; the head of R354 is rebuilt, D16, log 21).
The 64-bit bounds are repaired (C17, log 27). -/
def Obligations.HalfwordExtractionResults : Prop :=
  (∀ (s : State) (rt : Reg) (ac : Acc) (shift : Nat), shift < 32 → Enabled s .rev1 →
    exec (.extrSH rt ac shift) s = .next (toGprFlag s 23 rt (printedExtrSH (s.acc ac) shift))) ∧
  (∀ (s : State) (rt : Reg) (ac : Acc) (rs : Reg), Enabled s .rev1 →
    exec (.extrvSH rt ac rs) s = .next (toGprFlag s 23 rt (printedExtrSH (s.acc ac) ((s.readGpr rs).extractLsb' 0 5).toNat)))

/-- The bit-field extractions (47_acc_dspcontrol.md R360 to R364, R366; R364 is rebuilt, D16, log 21).
The extraction lines of EXTP are rebuilt too (R350(h), D16, log 21); that pos wraps to 63
when pos = size is the spec's inference (R363, log 27), zero extension is C33 (log 27). -/
def Obligations.BitfieldExtractionResults : Prop :=
  (∀ (s : State) (rt : Reg) (ac : Acc) (size : Nat), size < 32 → Enabled s .rev1 →
    let pos := (s.dspControl.extractLsb' 0 6).toNat
    (size ≤ pos → ∃ v : Word,
      exec (.extp rt ac size) s = .next { toGpr s rt v with dspControl := s.dspControl &&& 0xFFFFBFFF#32 } ∧
      ∀ k, k < 32 → v.getLsbD k = (decide (k ≤ size) && (s.acc ac).getLsbD (pos - size + k))) ∧
    (pos < size → ∃ (v : Word) (t : State), exec (.extp rt ac size) s = .next t ∧
      t = { toGpr s rt v with dspControl := s.dspControl ||| 0x00004000#32, draws := t.draws })) ∧
  (∀ (s : State) (rt : Reg) (ac : Acc) (rs : Reg), Enabled s .rev1 →
    let size := ((s.readGpr rs).extractLsb' 0 5).toNat
    let pos := (s.dspControl.extractLsb' 0 6).toNat
    (size ≤ pos → ∃ v : Word,
      exec (.extpv rt ac rs) s = .next { toGpr s rt v with dspControl := s.dspControl &&& 0xFFFFBFFF#32 } ∧
      ∀ k, k < 32 → v.getLsbD k = (decide (k ≤ size) && (s.acc ac).getLsbD (pos - size + k))) ∧
    (pos < size → ∃ (v : Word) (t : State), exec (.extpv rt ac rs) s = .next t ∧
      t = { toGpr s rt v with dspControl := s.dspControl ||| 0x00004000#32, draws := t.draws })) ∧
  (∀ (s : State) (rt : Reg) (ac : Acc) (size : Nat), size < 32 → Enabled s .rev1 →
    let pos := (s.dspControl.extractLsb' 0 6).toNat
    (size ≤ pos → ∃ v : Word,
      exec (.extpdp rt ac size) s = .next { toGpr s rt v with dspControl := (s.dspControl &&& 0xFFFFBFC0#32) ||| (BitVec.ofInt 6 ((pos : Int) - (size + 1))).setWidth 32 } ∧
      ∀ k, k < 32 → v.getLsbD k = (decide (k ≤ size) && (s.acc ac).getLsbD (pos - size + k))) ∧
    (pos < size → ∃ (v : Word) (t : State), exec (.extpdp rt ac size) s = .next t ∧
      t = { toGpr s rt v with dspControl := s.dspControl ||| 0x00004000#32, draws := t.draws })) ∧
  (∀ (s : State) (rt : Reg) (ac : Acc) (rs : Reg), Enabled s .rev1 →
    let size := ((s.readGpr rs).extractLsb' 0 5).toNat
    let pos := (s.dspControl.extractLsb' 0 6).toNat
    (size ≤ pos → ∃ v : Word,
      exec (.extpdpv rt ac rs) s = .next { toGpr s rt v with dspControl := (s.dspControl &&& 0xFFFFBFC0#32) ||| (BitVec.ofInt 6 ((pos : Int) - (size + 1))).setWidth 32 } ∧
      ∀ k, k < 32 → v.getLsbD k = (decide (k ≤ size) && (s.acc ac).getLsbD (pos - size + k))) ∧
    (pos < size → ∃ (v : Word) (t : State), exec (.extpdpv rt ac rs) s = .next t ∧
      t = { toGpr s rt v with dspControl := s.dspControl ||| 0x00004000#32, draws := t.draws }))

/-- The EXTP fail test (47_acc_dspcontrol.md R366). -/
def Obligations.ExtractionFailsExactlyIfPosIsBelowSize : Prop :=
  ∀ (s t : State) (rt rs : Reg) (ac : Acc) (size : Nat) (i : Instr), size < 32 →
    (i = .extp rt ac size ∨ i = .extpdp rt ac size ∨
      (size = ((s.readGpr rs).extractLsb' 0 5).toNat ∧ (i = .extpv rt ac rs ∨ i = .extpdpv rt ac rs))) →
    exec i s = .next t →
    let pos := (s.dspControl.extractLsb' 0 6).toNat
    (t.dspControl.getLsbD 14 = true ↔ pos < size) ∧ (t.dspControl.getLsbD 14 = false ↔ -1 ≤ (pos : Int) - (size + 1)) ∧
    (size ≤ pos → pos < 64 ∧ ∀ k, k ≤ size → pos - k < 64)

/-- The accumulator shifts (47_acc_dspcontrol.md R370, R371; direction by C33).
The right-shift line of SHILO is rebuilt by the spec (R350(h), D16, log 21); the width of
the SHILOV amount is C35 (log 27). -/
def Obligations.AccumulatorShiftResults : Prop :=
  (∀ (s : State) (ac : Acc) (shift : Int), -32 ≤ shift → shift ≤ 31 → Enabled s .rev1 →
    ∃ v : DWord, exec (.shilo ac shift) s = .next (toAcc s ac v) ∧
      ∀ k, k < 64 → v.getLsbD k = (decide (0 ≤ (k : Int) + shift) && (s.acc ac).getLsbD ((k : Int) + shift).toNat)) ∧
  (∀ (s : State) (ac : Acc) (rs : Reg), Enabled s .rev1 →
    let shift := ((s.readGpr rs).extractLsb' 0 6).toInt
    ∃ v : DWord, exec (.shilov ac rs) s = .next (toAcc s ac v) ∧
      ∀ k, k < 64 → v.getLsbD k = (decide (0 ≤ (k : Int) + shift) && (s.acc ac).getLsbD ((k : Int) + shift).toNat))

/-- MTHLIP (47_acc_dspcontrol.md R376, rebuilt by the spec; pos = 32 and pos > 32 by D24, logs 14, 15). -/
def Obligations.MthlipResults : Prop :=
  ∀ (s : State) (rs : Reg) (ac : Acc), Enabled s .rev1 →
    let pos := (s.dspControl.extractLsb' 0 6).toNat
    (pos ≤ 32 → exec (.mthlip rs ac) s =
      .next { toAcc s ac (s.readLo ac ++ s.readGpr rs) with
        dspControl := (s.dspControl &&& 0xFFFFFFC0#32) ||| BitVec.ofNat 32 ((pos + 32) % 64) }) ∧
    (32 < pos → ∃ (v : DWord) (p : BitVec 6) (t : State), exec (.mthlip rs ac) s = .next t ∧
      t = { toAcc s ac v with dspControl := (s.dspControl &&& 0xFFFFFFC0#32) ||| p.setWidth 32, draws := t.draws })

/-- The moves (47_acc_dspcontrol.md R377 to R380; the restriction by 70_reset_and_hazards.md R446, decision D25, log 16).
The destination of MFHI is rt by the figure (C12, log 27), the half MTLO leaves free is HI (C37, log 16). -/
def Obligations.MoveFromAndToAccumulatorResults : Prop :=
  ∀ (s : State) (r : Reg) (ac : Acc), Enabled s .rev1 →
    exec (.mfhi r ac) s = .next { toGpr s r (s.readHi ac) with hiloPending := if ac = 0 then false else s.hiloPending } ∧
    exec (.mflo r ac) s = .next { toGpr s r (s.readLo ac) with hiloPending := if ac = 0 then false else s.hiloPending } ∧
    (¬ (ac = 0 ∧ s.hiloPending = true) →
      exec (.mthi r ac) s = .next { s with hi := s.hi.set ac (s.readGpr r), pc := s.pc + 4#32 } ∧
      exec (.mtlo r ac) s = .next { s with lo := s.lo.set ac (s.readGpr r), pc := s.pc + 4#32 }) ∧
    (ac = 0 → s.hiloPending = true →
      (∃ (v : Word) (t : State), exec (.mthi r ac) s = .next t ∧
        t = { s with hi := s.hi.set 0 (s.readGpr r), lo := s.lo.set 0 v, pc := s.pc + 4#32, draws := t.draws }) ∧
      (∃ (v : Word) (t : State), exec (.mtlo r ac) s = .next t ∧
        t = { s with lo := s.lo.set 0 (s.readGpr r), hi := s.hi.set 0 v, pc := s.pc + 4#32, draws := t.draws }))

/-- WRDSP and RDDSP (47_acc_dspcontrol.md R384, R385; mask bit 6 by D20, log 25).
The head of WRDSP is rebuilt (R350(h), D16, C36, log 21), bits 31:28, 15 and 6 are D7
(C1, C2, log 25), and unselected bits of RDDSP are 0 by C38 (log 25). -/
def Obligations.DspControlAccessResults : Prop :=
  ∀ (s : State) (rt : Reg) (mask : Nat), mask < 128 → Enabled s .rev1 →
    (∃ d : Word, exec (.wrdsp rt mask) s = .next { s with dspControl := d, pc := s.pc + 4#32 } ∧ ∀ k, k < 32 →
      d.getLsbD k = if maskSelects mask k then (s.readGpr rt).getLsbD k else s.dspControl.getLsbD k) ∧
    (∃ v : Word, exec (.rddsp rt mask) s = .next (toGpr s rt v) ∧ ∀ k, k < 32 →
      v.getLsbD k = (maskSelects mask k && s.dspControl.getLsbD k))

/-- Context save and restore (10_state.md R55).
That the mask has six fields and the reserved bits are 0 is D7 and D20 (log 25). -/
def Obligations.SavedDspControlIsRestored : Prop :=
  ∀ (s t s2 t2 : State) (r q : Reg), MachineInv s → MachineInv s2 → r ≠ 0 → exec (.rddsp r 0x3F) s = .next t →
    s2.readGpr q = t.readGpr r → exec (.wrdsp q 0x3F) s2 = .next t2 → t2.dspControl = s.dspControl
end

