-- ==== Sys2Proof/Laws/State.lean ====
section
/-! SUPPORT. What each named update leaves of each field of State: true by unfolding one record update, cited by simp. -/

namespace Sys2Proof.Machine

@[simp] theorem State.gpr_advance (s : State) : (s.advance).gpr = s.gpr := rfl
@[simp] theorem State.hi_advance (s : State) : (s.advance).hi = s.hi := rfl
@[simp] theorem State.lo_advance (s : State) : (s.advance).lo = s.lo := rfl
@[simp] theorem State.dspControl_advance (s : State) : (s.advance).dspControl = s.dspControl := rfl
@[simp] theorem State.status_advance (s : State) : (s.advance).status = s.status := rfl
@[simp] theorem State.hiloPending_advance (s : State) : (s.advance).hiloPending = s.hiloPending := rfl
@[simp] theorem State.llbit_advance (s : State) : (s.advance).llbit = s.llbit := rfl
@[simp] theorem State.isaMode_advance (s : State) : (s.advance).isaMode = s.isaMode := rfl
@[simp] theorem State.inBranchDelaySlot_advance (s : State) : (s.advance).inBranchDelaySlot = s.inBranchDelaySlot := rfl
@[simp] theorem State.cfg_advance (s : State) : (s.advance).cfg = s.cfg := rfl
@[simp] theorem State.mem_advance (s : State) : (s.advance).mem = s.mem := rfl
@[simp] theorem State.draws_advance (s : State) : (s.advance).draws = s.draws := rfl

@[simp] theorem State.gpr_nextDraw (s : State) : (s.nextDraw).gpr = s.gpr := rfl
@[simp] theorem State.pc_nextDraw (s : State) : (s.nextDraw).pc = s.pc := rfl
@[simp] theorem State.hi_nextDraw (s : State) : (s.nextDraw).hi = s.hi := rfl
@[simp] theorem State.lo_nextDraw (s : State) : (s.nextDraw).lo = s.lo := rfl
@[simp] theorem State.dspControl_nextDraw (s : State) : (s.nextDraw).dspControl = s.dspControl := rfl
@[simp] theorem State.status_nextDraw (s : State) : (s.nextDraw).status = s.status := rfl
@[simp] theorem State.hiloPending_nextDraw (s : State) : (s.nextDraw).hiloPending = s.hiloPending := rfl
@[simp] theorem State.llbit_nextDraw (s : State) : (s.nextDraw).llbit = s.llbit := rfl
@[simp] theorem State.isaMode_nextDraw (s : State) : (s.nextDraw).isaMode = s.isaMode := rfl
@[simp] theorem State.inBranchDelaySlot_nextDraw (s : State) : (s.nextDraw).inBranchDelaySlot = s.inBranchDelaySlot := rfl
@[simp] theorem State.cfg_nextDraw (s : State) : (s.nextDraw).cfg = s.cfg := rfl
@[simp] theorem State.mem_nextDraw (s : State) : (s.nextDraw).mem = s.mem := rfl

@[simp] theorem State.gpr_writeHi (s : State) (a : Acc) (v : Word) : (s.writeHi a v).gpr = s.gpr := rfl
@[simp] theorem State.pc_writeHi (s : State) (a : Acc) (v : Word) : (s.writeHi a v).pc = s.pc := rfl
@[simp] theorem State.lo_writeHi (s : State) (a : Acc) (v : Word) : (s.writeHi a v).lo = s.lo := rfl
@[simp] theorem State.dspControl_writeHi (s : State) (a : Acc) (v : Word) : (s.writeHi a v).dspControl = s.dspControl := rfl
@[simp] theorem State.status_writeHi (s : State) (a : Acc) (v : Word) : (s.writeHi a v).status = s.status := rfl
@[simp] theorem State.hiloPending_writeHi (s : State) (a : Acc) (v : Word) : (s.writeHi a v).hiloPending = s.hiloPending := rfl
@[simp] theorem State.llbit_writeHi (s : State) (a : Acc) (v : Word) : (s.writeHi a v).llbit = s.llbit := rfl
@[simp] theorem State.isaMode_writeHi (s : State) (a : Acc) (v : Word) : (s.writeHi a v).isaMode = s.isaMode := rfl
@[simp] theorem State.inBranchDelaySlot_writeHi (s : State) (a : Acc) (v : Word) : (s.writeHi a v).inBranchDelaySlot = s.inBranchDelaySlot := rfl
@[simp] theorem State.cfg_writeHi (s : State) (a : Acc) (v : Word) : (s.writeHi a v).cfg = s.cfg := rfl
@[simp] theorem State.mem_writeHi (s : State) (a : Acc) (v : Word) : (s.writeHi a v).mem = s.mem := rfl
@[simp] theorem State.draws_writeHi (s : State) (a : Acc) (v : Word) : (s.writeHi a v).draws = s.draws := rfl

@[simp] theorem State.gpr_writeLo (s : State) (a : Acc) (v : Word) : (s.writeLo a v).gpr = s.gpr := rfl
@[simp] theorem State.pc_writeLo (s : State) (a : Acc) (v : Word) : (s.writeLo a v).pc = s.pc := rfl
@[simp] theorem State.hi_writeLo (s : State) (a : Acc) (v : Word) : (s.writeLo a v).hi = s.hi := rfl
@[simp] theorem State.dspControl_writeLo (s : State) (a : Acc) (v : Word) : (s.writeLo a v).dspControl = s.dspControl := rfl
@[simp] theorem State.status_writeLo (s : State) (a : Acc) (v : Word) : (s.writeLo a v).status = s.status := rfl
@[simp] theorem State.hiloPending_writeLo (s : State) (a : Acc) (v : Word) : (s.writeLo a v).hiloPending = s.hiloPending := rfl
@[simp] theorem State.llbit_writeLo (s : State) (a : Acc) (v : Word) : (s.writeLo a v).llbit = s.llbit := rfl
@[simp] theorem State.isaMode_writeLo (s : State) (a : Acc) (v : Word) : (s.writeLo a v).isaMode = s.isaMode := rfl
@[simp] theorem State.inBranchDelaySlot_writeLo (s : State) (a : Acc) (v : Word) : (s.writeLo a v).inBranchDelaySlot = s.inBranchDelaySlot := rfl
@[simp] theorem State.cfg_writeLo (s : State) (a : Acc) (v : Word) : (s.writeLo a v).cfg = s.cfg := rfl
@[simp] theorem State.mem_writeLo (s : State) (a : Acc) (v : Word) : (s.writeLo a v).mem = s.mem := rfl
@[simp] theorem State.draws_writeLo (s : State) (a : Acc) (v : Word) : (s.writeLo a v).draws = s.draws := rfl

@[simp] theorem State.gpr_writeAcc (s : State) (a : Acc) (v : DWord) : (s.writeAcc a v).gpr = s.gpr := rfl
@[simp] theorem State.pc_writeAcc (s : State) (a : Acc) (v : DWord) : (s.writeAcc a v).pc = s.pc := rfl
@[simp] theorem State.dspControl_writeAcc (s : State) (a : Acc) (v : DWord) : (s.writeAcc a v).dspControl = s.dspControl := rfl
@[simp] theorem State.status_writeAcc (s : State) (a : Acc) (v : DWord) : (s.writeAcc a v).status = s.status := rfl
@[simp] theorem State.hiloPending_writeAcc (s : State) (a : Acc) (v : DWord) : (s.writeAcc a v).hiloPending = s.hiloPending := rfl
@[simp] theorem State.llbit_writeAcc (s : State) (a : Acc) (v : DWord) : (s.writeAcc a v).llbit = s.llbit := rfl
@[simp] theorem State.isaMode_writeAcc (s : State) (a : Acc) (v : DWord) : (s.writeAcc a v).isaMode = s.isaMode := rfl
@[simp] theorem State.inBranchDelaySlot_writeAcc (s : State) (a : Acc) (v : DWord) : (s.writeAcc a v).inBranchDelaySlot = s.inBranchDelaySlot := rfl
@[simp] theorem State.cfg_writeAcc (s : State) (a : Acc) (v : DWord) : (s.writeAcc a v).cfg = s.cfg := rfl
@[simp] theorem State.mem_writeAcc (s : State) (a : Acc) (v : DWord) : (s.writeAcc a v).mem = s.mem := rfl
@[simp] theorem State.draws_writeAcc (s : State) (a : Acc) (v : DWord) : (s.writeAcc a v).draws = s.draws := rfl

@[simp] theorem State.gpr_writeHiFree (s : State) (a : Acc) : (s.writeHiFree a).gpr = s.gpr := rfl
@[simp] theorem State.pc_writeHiFree (s : State) (a : Acc) : (s.writeHiFree a).pc = s.pc := rfl
@[simp] theorem State.lo_writeHiFree (s : State) (a : Acc) : (s.writeHiFree a).lo = s.lo := rfl
@[simp] theorem State.dspControl_writeHiFree (s : State) (a : Acc) : (s.writeHiFree a).dspControl = s.dspControl := rfl
@[simp] theorem State.status_writeHiFree (s : State) (a : Acc) : (s.writeHiFree a).status = s.status := rfl
@[simp] theorem State.hiloPending_writeHiFree (s : State) (a : Acc) : (s.writeHiFree a).hiloPending = s.hiloPending := rfl
@[simp] theorem State.llbit_writeHiFree (s : State) (a : Acc) : (s.writeHiFree a).llbit = s.llbit := rfl
@[simp] theorem State.isaMode_writeHiFree (s : State) (a : Acc) : (s.writeHiFree a).isaMode = s.isaMode := rfl
@[simp] theorem State.inBranchDelaySlot_writeHiFree (s : State) (a : Acc) : (s.writeHiFree a).inBranchDelaySlot = s.inBranchDelaySlot := rfl
@[simp] theorem State.cfg_writeHiFree (s : State) (a : Acc) : (s.writeHiFree a).cfg = s.cfg := rfl
@[simp] theorem State.mem_writeHiFree (s : State) (a : Acc) : (s.writeHiFree a).mem = s.mem := rfl

@[simp] theorem State.gpr_writeLoFree (s : State) (a : Acc) : (s.writeLoFree a).gpr = s.gpr := rfl
@[simp] theorem State.pc_writeLoFree (s : State) (a : Acc) : (s.writeLoFree a).pc = s.pc := rfl
@[simp] theorem State.hi_writeLoFree (s : State) (a : Acc) : (s.writeLoFree a).hi = s.hi := rfl
@[simp] theorem State.dspControl_writeLoFree (s : State) (a : Acc) : (s.writeLoFree a).dspControl = s.dspControl := rfl
@[simp] theorem State.status_writeLoFree (s : State) (a : Acc) : (s.writeLoFree a).status = s.status := rfl
@[simp] theorem State.hiloPending_writeLoFree (s : State) (a : Acc) : (s.writeLoFree a).hiloPending = s.hiloPending := rfl
@[simp] theorem State.llbit_writeLoFree (s : State) (a : Acc) : (s.writeLoFree a).llbit = s.llbit := rfl
@[simp] theorem State.isaMode_writeLoFree (s : State) (a : Acc) : (s.writeLoFree a).isaMode = s.isaMode := rfl
@[simp] theorem State.inBranchDelaySlot_writeLoFree (s : State) (a : Acc) : (s.writeLoFree a).inBranchDelaySlot = s.inBranchDelaySlot := rfl
@[simp] theorem State.cfg_writeLoFree (s : State) (a : Acc) : (s.writeLoFree a).cfg = s.cfg := rfl
@[simp] theorem State.mem_writeLoFree (s : State) (a : Acc) : (s.writeLoFree a).mem = s.mem := rfl

@[simp] theorem State.gpr_clobberAc0 (s : State) : (s.clobberAc0).gpr = s.gpr := rfl
@[simp] theorem State.pc_clobberAc0 (s : State) : (s.clobberAc0).pc = s.pc := rfl
@[simp] theorem State.dspControl_clobberAc0 (s : State) : (s.clobberAc0).dspControl = s.dspControl := rfl
@[simp] theorem State.status_clobberAc0 (s : State) : (s.clobberAc0).status = s.status := rfl
@[simp] theorem State.hiloPending_clobberAc0 (s : State) : (s.clobberAc0).hiloPending = s.hiloPending := rfl
@[simp] theorem State.llbit_clobberAc0 (s : State) : (s.clobberAc0).llbit = s.llbit := rfl
@[simp] theorem State.isaMode_clobberAc0 (s : State) : (s.clobberAc0).isaMode = s.isaMode := rfl
@[simp] theorem State.inBranchDelaySlot_clobberAc0 (s : State) : (s.clobberAc0).inBranchDelaySlot = s.inBranchDelaySlot := rfl
@[simp] theorem State.cfg_clobberAc0 (s : State) : (s.clobberAc0).cfg = s.cfg := rfl
@[simp] theorem State.mem_clobberAc0 (s : State) : (s.clobberAc0).mem = s.mem := rfl

@[simp] theorem State.gpr_setPos (s : State) (v : BitVec 6) : (s.setPos v).gpr = s.gpr := rfl
@[simp] theorem State.pc_setPos (s : State) (v : BitVec 6) : (s.setPos v).pc = s.pc := rfl
@[simp] theorem State.hi_setPos (s : State) (v : BitVec 6) : (s.setPos v).hi = s.hi := rfl
@[simp] theorem State.lo_setPos (s : State) (v : BitVec 6) : (s.setPos v).lo = s.lo := rfl
@[simp] theorem State.status_setPos (s : State) (v : BitVec 6) : (s.setPos v).status = s.status := rfl
@[simp] theorem State.hiloPending_setPos (s : State) (v : BitVec 6) : (s.setPos v).hiloPending = s.hiloPending := rfl
@[simp] theorem State.llbit_setPos (s : State) (v : BitVec 6) : (s.setPos v).llbit = s.llbit := rfl
@[simp] theorem State.isaMode_setPos (s : State) (v : BitVec 6) : (s.setPos v).isaMode = s.isaMode := rfl
@[simp] theorem State.inBranchDelaySlot_setPos (s : State) (v : BitVec 6) : (s.setPos v).inBranchDelaySlot = s.inBranchDelaySlot := rfl
@[simp] theorem State.cfg_setPos (s : State) (v : BitVec 6) : (s.setPos v).cfg = s.cfg := rfl
@[simp] theorem State.mem_setPos (s : State) (v : BitVec 6) : (s.setPos v).mem = s.mem := rfl
@[simp] theorem State.draws_setPos (s : State) (v : BitVec 6) : (s.setPos v).draws = s.draws := rfl

@[simp] theorem State.gpr_setScount (s : State) (v : BitVec 6) : (s.setScount v).gpr = s.gpr := rfl
@[simp] theorem State.pc_setScount (s : State) (v : BitVec 6) : (s.setScount v).pc = s.pc := rfl
@[simp] theorem State.hi_setScount (s : State) (v : BitVec 6) : (s.setScount v).hi = s.hi := rfl
@[simp] theorem State.lo_setScount (s : State) (v : BitVec 6) : (s.setScount v).lo = s.lo := rfl
@[simp] theorem State.status_setScount (s : State) (v : BitVec 6) : (s.setScount v).status = s.status := rfl
@[simp] theorem State.hiloPending_setScount (s : State) (v : BitVec 6) : (s.setScount v).hiloPending = s.hiloPending := rfl
@[simp] theorem State.llbit_setScount (s : State) (v : BitVec 6) : (s.setScount v).llbit = s.llbit := rfl
@[simp] theorem State.isaMode_setScount (s : State) (v : BitVec 6) : (s.setScount v).isaMode = s.isaMode := rfl
@[simp] theorem State.inBranchDelaySlot_setScount (s : State) (v : BitVec 6) : (s.setScount v).inBranchDelaySlot = s.inBranchDelaySlot := rfl
@[simp] theorem State.cfg_setScount (s : State) (v : BitVec 6) : (s.setScount v).cfg = s.cfg := rfl
@[simp] theorem State.mem_setScount (s : State) (v : BitVec 6) : (s.setScount v).mem = s.mem := rfl
@[simp] theorem State.draws_setScount (s : State) (v : BitVec 6) : (s.setScount v).draws = s.draws := rfl

@[simp] theorem State.gpr_setCarry (s : State) (v : BitVec 1) : (s.setCarry v).gpr = s.gpr := rfl
@[simp] theorem State.pc_setCarry (s : State) (v : BitVec 1) : (s.setCarry v).pc = s.pc := rfl
@[simp] theorem State.hi_setCarry (s : State) (v : BitVec 1) : (s.setCarry v).hi = s.hi := rfl
@[simp] theorem State.lo_setCarry (s : State) (v : BitVec 1) : (s.setCarry v).lo = s.lo := rfl
@[simp] theorem State.status_setCarry (s : State) (v : BitVec 1) : (s.setCarry v).status = s.status := rfl
@[simp] theorem State.hiloPending_setCarry (s : State) (v : BitVec 1) : (s.setCarry v).hiloPending = s.hiloPending := rfl
@[simp] theorem State.llbit_setCarry (s : State) (v : BitVec 1) : (s.setCarry v).llbit = s.llbit := rfl
@[simp] theorem State.isaMode_setCarry (s : State) (v : BitVec 1) : (s.setCarry v).isaMode = s.isaMode := rfl
@[simp] theorem State.inBranchDelaySlot_setCarry (s : State) (v : BitVec 1) : (s.setCarry v).inBranchDelaySlot = s.inBranchDelaySlot := rfl
@[simp] theorem State.cfg_setCarry (s : State) (v : BitVec 1) : (s.setCarry v).cfg = s.cfg := rfl
@[simp] theorem State.mem_setCarry (s : State) (v : BitVec 1) : (s.setCarry v).mem = s.mem := rfl
@[simp] theorem State.draws_setCarry (s : State) (v : BitVec 1) : (s.setCarry v).draws = s.draws := rfl

@[simp] theorem State.gpr_setEfi (s : State) (v : BitVec 1) : (s.setEfi v).gpr = s.gpr := rfl
@[simp] theorem State.pc_setEfi (s : State) (v : BitVec 1) : (s.setEfi v).pc = s.pc := rfl
@[simp] theorem State.hi_setEfi (s : State) (v : BitVec 1) : (s.setEfi v).hi = s.hi := rfl
@[simp] theorem State.lo_setEfi (s : State) (v : BitVec 1) : (s.setEfi v).lo = s.lo := rfl
@[simp] theorem State.status_setEfi (s : State) (v : BitVec 1) : (s.setEfi v).status = s.status := rfl
@[simp] theorem State.hiloPending_setEfi (s : State) (v : BitVec 1) : (s.setEfi v).hiloPending = s.hiloPending := rfl
@[simp] theorem State.llbit_setEfi (s : State) (v : BitVec 1) : (s.setEfi v).llbit = s.llbit := rfl
@[simp] theorem State.isaMode_setEfi (s : State) (v : BitVec 1) : (s.setEfi v).isaMode = s.isaMode := rfl
@[simp] theorem State.inBranchDelaySlot_setEfi (s : State) (v : BitVec 1) : (s.setEfi v).inBranchDelaySlot = s.inBranchDelaySlot := rfl
@[simp] theorem State.cfg_setEfi (s : State) (v : BitVec 1) : (s.setEfi v).cfg = s.cfg := rfl
@[simp] theorem State.mem_setEfi (s : State) (v : BitVec 1) : (s.setEfi v).mem = s.mem := rfl
@[simp] theorem State.draws_setEfi (s : State) (v : BitVec 1) : (s.setEfi v).draws = s.draws := rfl

@[simp] theorem State.gpr_setOuflag (s : State) (v : BitVec 8) : (s.setOuflag v).gpr = s.gpr := rfl
@[simp] theorem State.pc_setOuflag (s : State) (v : BitVec 8) : (s.setOuflag v).pc = s.pc := rfl
@[simp] theorem State.hi_setOuflag (s : State) (v : BitVec 8) : (s.setOuflag v).hi = s.hi := rfl
@[simp] theorem State.lo_setOuflag (s : State) (v : BitVec 8) : (s.setOuflag v).lo = s.lo := rfl
@[simp] theorem State.status_setOuflag (s : State) (v : BitVec 8) : (s.setOuflag v).status = s.status := rfl
@[simp] theorem State.hiloPending_setOuflag (s : State) (v : BitVec 8) : (s.setOuflag v).hiloPending = s.hiloPending := rfl
@[simp] theorem State.llbit_setOuflag (s : State) (v : BitVec 8) : (s.setOuflag v).llbit = s.llbit := rfl
@[simp] theorem State.isaMode_setOuflag (s : State) (v : BitVec 8) : (s.setOuflag v).isaMode = s.isaMode := rfl
@[simp] theorem State.inBranchDelaySlot_setOuflag (s : State) (v : BitVec 8) : (s.setOuflag v).inBranchDelaySlot = s.inBranchDelaySlot := rfl
@[simp] theorem State.cfg_setOuflag (s : State) (v : BitVec 8) : (s.setOuflag v).cfg = s.cfg := rfl
@[simp] theorem State.mem_setOuflag (s : State) (v : BitVec 8) : (s.setOuflag v).mem = s.mem := rfl
@[simp] theorem State.draws_setOuflag (s : State) (v : BitVec 8) : (s.setOuflag v).draws = s.draws := rfl

@[simp] theorem State.gpr_setCcond (s : State) (v : BitVec 4) : (s.setCcond v).gpr = s.gpr := rfl
@[simp] theorem State.pc_setCcond (s : State) (v : BitVec 4) : (s.setCcond v).pc = s.pc := rfl
@[simp] theorem State.hi_setCcond (s : State) (v : BitVec 4) : (s.setCcond v).hi = s.hi := rfl
@[simp] theorem State.lo_setCcond (s : State) (v : BitVec 4) : (s.setCcond v).lo = s.lo := rfl
@[simp] theorem State.status_setCcond (s : State) (v : BitVec 4) : (s.setCcond v).status = s.status := rfl
@[simp] theorem State.hiloPending_setCcond (s : State) (v : BitVec 4) : (s.setCcond v).hiloPending = s.hiloPending := rfl
@[simp] theorem State.llbit_setCcond (s : State) (v : BitVec 4) : (s.setCcond v).llbit = s.llbit := rfl
@[simp] theorem State.isaMode_setCcond (s : State) (v : BitVec 4) : (s.setCcond v).isaMode = s.isaMode := rfl
@[simp] theorem State.inBranchDelaySlot_setCcond (s : State) (v : BitVec 4) : (s.setCcond v).inBranchDelaySlot = s.inBranchDelaySlot := rfl
@[simp] theorem State.cfg_setCcond (s : State) (v : BitVec 4) : (s.setCcond v).cfg = s.cfg := rfl
@[simp] theorem State.mem_setCcond (s : State) (v : BitVec 4) : (s.setCcond v).mem = s.mem := rfl
@[simp] theorem State.draws_setCcond (s : State) (v : BitVec 4) : (s.setCcond v).draws = s.draws := rfl

@[simp] theorem State.gpr_setCcondPh (s : State) (v : BitVec 2) : (s.setCcondPh v).gpr = s.gpr := rfl
@[simp] theorem State.pc_setCcondPh (s : State) (v : BitVec 2) : (s.setCcondPh v).pc = s.pc := rfl
@[simp] theorem State.hi_setCcondPh (s : State) (v : BitVec 2) : (s.setCcondPh v).hi = s.hi := rfl
@[simp] theorem State.lo_setCcondPh (s : State) (v : BitVec 2) : (s.setCcondPh v).lo = s.lo := rfl
@[simp] theorem State.status_setCcondPh (s : State) (v : BitVec 2) : (s.setCcondPh v).status = s.status := rfl
@[simp] theorem State.hiloPending_setCcondPh (s : State) (v : BitVec 2) : (s.setCcondPh v).hiloPending = s.hiloPending := rfl
@[simp] theorem State.llbit_setCcondPh (s : State) (v : BitVec 2) : (s.setCcondPh v).llbit = s.llbit := rfl
@[simp] theorem State.isaMode_setCcondPh (s : State) (v : BitVec 2) : (s.setCcondPh v).isaMode = s.isaMode := rfl
@[simp] theorem State.inBranchDelaySlot_setCcondPh (s : State) (v : BitVec 2) : (s.setCcondPh v).inBranchDelaySlot = s.inBranchDelaySlot := rfl
@[simp] theorem State.cfg_setCcondPh (s : State) (v : BitVec 2) : (s.setCcondPh v).cfg = s.cfg := rfl
@[simp] theorem State.mem_setCcondPh (s : State) (v : BitVec 2) : (s.setCcondPh v).mem = s.mem := rfl

@[simp] theorem State.gpr_setPosFree (s : State) : (s.setPosFree).gpr = s.gpr := rfl
@[simp] theorem State.pc_setPosFree (s : State) : (s.setPosFree).pc = s.pc := rfl
@[simp] theorem State.hi_setPosFree (s : State) : (s.setPosFree).hi = s.hi := rfl
@[simp] theorem State.lo_setPosFree (s : State) : (s.setPosFree).lo = s.lo := rfl
@[simp] theorem State.status_setPosFree (s : State) : (s.setPosFree).status = s.status := rfl
@[simp] theorem State.hiloPending_setPosFree (s : State) : (s.setPosFree).hiloPending = s.hiloPending := rfl
@[simp] theorem State.llbit_setPosFree (s : State) : (s.setPosFree).llbit = s.llbit := rfl
@[simp] theorem State.isaMode_setPosFree (s : State) : (s.setPosFree).isaMode = s.isaMode := rfl
@[simp] theorem State.inBranchDelaySlot_setPosFree (s : State) : (s.setPosFree).inBranchDelaySlot = s.inBranchDelaySlot := rfl
@[simp] theorem State.cfg_setPosFree (s : State) : (s.setPosFree).cfg = s.cfg := rfl
@[simp] theorem State.mem_setPosFree (s : State) : (s.setPosFree).mem = s.mem := rfl

@[simp] theorem State.gpr_writeDsp (s : State) (mask : Nat) (v : Word) : (s.writeDsp mask v).gpr = s.gpr := rfl
@[simp] theorem State.pc_writeDsp (s : State) (mask : Nat) (v : Word) : (s.writeDsp mask v).pc = s.pc := rfl
@[simp] theorem State.hi_writeDsp (s : State) (mask : Nat) (v : Word) : (s.writeDsp mask v).hi = s.hi := rfl
@[simp] theorem State.lo_writeDsp (s : State) (mask : Nat) (v : Word) : (s.writeDsp mask v).lo = s.lo := rfl
@[simp] theorem State.status_writeDsp (s : State) (mask : Nat) (v : Word) : (s.writeDsp mask v).status = s.status := rfl
@[simp] theorem State.hiloPending_writeDsp (s : State) (mask : Nat) (v : Word) : (s.writeDsp mask v).hiloPending = s.hiloPending := rfl
@[simp] theorem State.llbit_writeDsp (s : State) (mask : Nat) (v : Word) : (s.writeDsp mask v).llbit = s.llbit := rfl
@[simp] theorem State.isaMode_writeDsp (s : State) (mask : Nat) (v : Word) : (s.writeDsp mask v).isaMode = s.isaMode := rfl
@[simp] theorem State.inBranchDelaySlot_writeDsp (s : State) (mask : Nat) (v : Word) : (s.writeDsp mask v).inBranchDelaySlot = s.inBranchDelaySlot := rfl
@[simp] theorem State.cfg_writeDsp (s : State) (mask : Nat) (v : Word) : (s.writeDsp mask v).cfg = s.cfg := rfl
@[simp] theorem State.mem_writeDsp (s : State) (mask : Nat) (v : Word) : (s.writeDsp mask v).mem = s.mem := rfl
@[simp] theorem State.draws_writeDsp (s : State) (mask : Nat) (v : Word) : (s.writeDsp mask v).draws = s.draws := rfl

@[simp] theorem State.gpr_placeWord (s : State) (w : Word) : (s.placeWord w).gpr = s.gpr := rfl
@[simp] theorem State.pc_placeWord (s : State) (w : Word) : (s.placeWord w).pc = s.pc := rfl
@[simp] theorem State.hi_placeWord (s : State) (w : Word) : (s.placeWord w).hi = s.hi := rfl
@[simp] theorem State.lo_placeWord (s : State) (w : Word) : (s.placeWord w).lo = s.lo := rfl
@[simp] theorem State.dspControl_placeWord (s : State) (w : Word) : (s.placeWord w).dspControl = s.dspControl := rfl
@[simp] theorem State.status_placeWord (s : State) (w : Word) : (s.placeWord w).status = s.status := rfl
@[simp] theorem State.hiloPending_placeWord (s : State) (w : Word) : (s.placeWord w).hiloPending = s.hiloPending := rfl
@[simp] theorem State.llbit_placeWord (s : State) (w : Word) : (s.placeWord w).llbit = s.llbit := rfl
@[simp] theorem State.isaMode_placeWord (s : State) (w : Word) : (s.placeWord w).isaMode = s.isaMode := rfl
@[simp] theorem State.inBranchDelaySlot_placeWord (s : State) (w : Word) : (s.placeWord w).inBranchDelaySlot = s.inBranchDelaySlot := rfl
@[simp] theorem State.cfg_placeWord (s : State) (w : Word) : (s.placeWord w).cfg = s.cfg := rfl
@[simp] theorem State.draws_placeWord (s : State) (w : Word) : (s.placeWord w).draws = s.draws := rfl

@[simp] theorem State.gpr_memWrite (s : State) (a : Word) (n v : Nat) : (s.memWrite a n v).gpr = s.gpr := rfl
@[simp] theorem State.pc_memWrite (s : State) (a : Word) (n v : Nat) : (s.memWrite a n v).pc = s.pc := rfl
@[simp] theorem State.hi_memWrite (s : State) (a : Word) (n v : Nat) : (s.memWrite a n v).hi = s.hi := rfl
@[simp] theorem State.lo_memWrite (s : State) (a : Word) (n v : Nat) : (s.memWrite a n v).lo = s.lo := rfl
@[simp] theorem State.dspControl_memWrite (s : State) (a : Word) (n v : Nat) : (s.memWrite a n v).dspControl = s.dspControl := rfl
@[simp] theorem State.status_memWrite (s : State) (a : Word) (n v : Nat) : (s.memWrite a n v).status = s.status := rfl
@[simp] theorem State.hiloPending_memWrite (s : State) (a : Word) (n v : Nat) : (s.memWrite a n v).hiloPending = s.hiloPending := rfl
@[simp] theorem State.llbit_memWrite (s : State) (a : Word) (n v : Nat) : (s.memWrite a n v).llbit = s.llbit := rfl
@[simp] theorem State.isaMode_memWrite (s : State) (a : Word) (n v : Nat) : (s.memWrite a n v).isaMode = s.isaMode := rfl
@[simp] theorem State.inBranchDelaySlot_memWrite (s : State) (a : Word) (n v : Nat) : (s.memWrite a n v).inBranchDelaySlot = s.inBranchDelaySlot := rfl
@[simp] theorem State.cfg_memWrite (s : State) (a : Word) (n v : Nat) : (s.memWrite a n v).cfg = s.cfg := rfl
@[simp] theorem State.draws_memWrite (s : State) (a : Word) (n v : Nat) : (s.memWrite a n v).draws = s.draws := rfl

@[simp] theorem State.pc_writeGpr (s : State) (r : Reg) (v : Word) : (s.writeGpr r v).pc = s.pc := by unfold State.writeGpr; split <;> rfl
@[simp] theorem State.hi_writeGpr (s : State) (r : Reg) (v : Word) : (s.writeGpr r v).hi = s.hi := by unfold State.writeGpr; split <;> rfl
@[simp] theorem State.lo_writeGpr (s : State) (r : Reg) (v : Word) : (s.writeGpr r v).lo = s.lo := by unfold State.writeGpr; split <;> rfl
@[simp] theorem State.dspControl_writeGpr (s : State) (r : Reg) (v : Word) : (s.writeGpr r v).dspControl = s.dspControl := by unfold State.writeGpr; split <;> rfl
@[simp] theorem State.status_writeGpr (s : State) (r : Reg) (v : Word) : (s.writeGpr r v).status = s.status := by unfold State.writeGpr; split <;> rfl
@[simp] theorem State.hiloPending_writeGpr (s : State) (r : Reg) (v : Word) : (s.writeGpr r v).hiloPending = s.hiloPending := by unfold State.writeGpr; split <;> rfl
@[simp] theorem State.llbit_writeGpr (s : State) (r : Reg) (v : Word) : (s.writeGpr r v).llbit = s.llbit := by unfold State.writeGpr; split <;> rfl
@[simp] theorem State.isaMode_writeGpr (s : State) (r : Reg) (v : Word) : (s.writeGpr r v).isaMode = s.isaMode := by unfold State.writeGpr; split <;> rfl
@[simp] theorem State.inBranchDelaySlot_writeGpr (s : State) (r : Reg) (v : Word) : (s.writeGpr r v).inBranchDelaySlot = s.inBranchDelaySlot := by unfold State.writeGpr; split <;> rfl
@[simp] theorem State.cfg_writeGpr (s : State) (r : Reg) (v : Word) : (s.writeGpr r v).cfg = s.cfg := by unfold State.writeGpr; split <;> rfl
@[simp] theorem State.mem_writeGpr (s : State) (r : Reg) (v : Word) : (s.writeGpr r v).mem = s.mem := by unfold State.writeGpr; split <;> rfl
@[simp] theorem State.draws_writeGpr (s : State) (r : Reg) (v : Word) : (s.writeGpr r v).draws = s.draws := by unfold State.writeGpr; split <;> rfl

@[simp] theorem State.gpr_setPending (s : State) (a : Acc) (b : Bool) : (s.setPending a b).gpr = s.gpr := by unfold State.setPending; split <;> rfl
@[simp] theorem State.pc_setPending (s : State) (a : Acc) (b : Bool) : (s.setPending a b).pc = s.pc := by unfold State.setPending; split <;> rfl
@[simp] theorem State.hi_setPending (s : State) (a : Acc) (b : Bool) : (s.setPending a b).hi = s.hi := by unfold State.setPending; split <;> rfl
@[simp] theorem State.lo_setPending (s : State) (a : Acc) (b : Bool) : (s.setPending a b).lo = s.lo := by unfold State.setPending; split <;> rfl
@[simp] theorem State.dspControl_setPending (s : State) (a : Acc) (b : Bool) : (s.setPending a b).dspControl = s.dspControl := by unfold State.setPending; split <;> rfl
@[simp] theorem State.status_setPending (s : State) (a : Acc) (b : Bool) : (s.setPending a b).status = s.status := by unfold State.setPending; split <;> rfl
@[simp] theorem State.llbit_setPending (s : State) (a : Acc) (b : Bool) : (s.setPending a b).llbit = s.llbit := by unfold State.setPending; split <;> rfl
@[simp] theorem State.isaMode_setPending (s : State) (a : Acc) (b : Bool) : (s.setPending a b).isaMode = s.isaMode := by unfold State.setPending; split <;> rfl
@[simp] theorem State.inBranchDelaySlot_setPending (s : State) (a : Acc) (b : Bool) : (s.setPending a b).inBranchDelaySlot = s.inBranchDelaySlot := by unfold State.setPending; split <;> rfl
@[simp] theorem State.cfg_setPending (s : State) (a : Acc) (b : Bool) : (s.setPending a b).cfg = s.cfg := by unfold State.setPending; split <;> rfl
@[simp] theorem State.mem_setPending (s : State) (a : Acc) (b : Bool) : (s.setPending a b).mem = s.mem := by unfold State.setPending; split <;> rfl
@[simp] theorem State.draws_setPending (s : State) (a : Acc) (b : Bool) : (s.setPending a b).draws = s.draws := by unfold State.setPending; split <;> rfl

@[simp] theorem State.gpr_flagIf (s : State) (bit : Nat) (b : Bool) : (s.flagIf bit b).gpr = s.gpr := by unfold State.flagIf; split <;> rfl
@[simp] theorem State.pc_flagIf (s : State) (bit : Nat) (b : Bool) : (s.flagIf bit b).pc = s.pc := by unfold State.flagIf; split <;> rfl
@[simp] theorem State.hi_flagIf (s : State) (bit : Nat) (b : Bool) : (s.flagIf bit b).hi = s.hi := by unfold State.flagIf; split <;> rfl
@[simp] theorem State.lo_flagIf (s : State) (bit : Nat) (b : Bool) : (s.flagIf bit b).lo = s.lo := by unfold State.flagIf; split <;> rfl
@[simp] theorem State.status_flagIf (s : State) (bit : Nat) (b : Bool) : (s.flagIf bit b).status = s.status := by unfold State.flagIf; split <;> rfl
@[simp] theorem State.hiloPending_flagIf (s : State) (bit : Nat) (b : Bool) : (s.flagIf bit b).hiloPending = s.hiloPending := by unfold State.flagIf; split <;> rfl
@[simp] theorem State.llbit_flagIf (s : State) (bit : Nat) (b : Bool) : (s.flagIf bit b).llbit = s.llbit := by unfold State.flagIf; split <;> rfl
@[simp] theorem State.isaMode_flagIf (s : State) (bit : Nat) (b : Bool) : (s.flagIf bit b).isaMode = s.isaMode := by unfold State.flagIf; split <;> rfl
@[simp] theorem State.inBranchDelaySlot_flagIf (s : State) (bit : Nat) (b : Bool) : (s.flagIf bit b).inBranchDelaySlot = s.inBranchDelaySlot := by unfold State.flagIf; split <;> rfl
@[simp] theorem State.cfg_flagIf (s : State) (bit : Nat) (b : Bool) : (s.flagIf bit b).cfg = s.cfg := by unfold State.flagIf; split <;> rfl
@[simp] theorem State.mem_flagIf (s : State) (bit : Nat) (b : Bool) : (s.flagIf bit b).mem = s.mem := by unfold State.flagIf; split <;> rfl
@[simp] theorem State.draws_flagIf (s : State) (bit : Nat) (b : Bool) : (s.flagIf bit b).draws = s.draws := by unfold State.flagIf; split <;> rfl

@[simp] theorem State.pc_writeGprFree (s : State) (r : Reg) : (s.writeGprFree r).pc = s.pc := by simp [State.writeGprFree]
@[simp] theorem State.hi_writeGprFree (s : State) (r : Reg) : (s.writeGprFree r).hi = s.hi := by simp [State.writeGprFree]
@[simp] theorem State.lo_writeGprFree (s : State) (r : Reg) : (s.writeGprFree r).lo = s.lo := by simp [State.writeGprFree]
@[simp] theorem State.dspControl_writeGprFree (s : State) (r : Reg) : (s.writeGprFree r).dspControl = s.dspControl := by simp [State.writeGprFree]
@[simp] theorem State.status_writeGprFree (s : State) (r : Reg) : (s.writeGprFree r).status = s.status := by simp [State.writeGprFree]
@[simp] theorem State.hiloPending_writeGprFree (s : State) (r : Reg) : (s.writeGprFree r).hiloPending = s.hiloPending := by simp [State.writeGprFree]
@[simp] theorem State.llbit_writeGprFree (s : State) (r : Reg) : (s.writeGprFree r).llbit = s.llbit := by simp [State.writeGprFree]
@[simp] theorem State.isaMode_writeGprFree (s : State) (r : Reg) : (s.writeGprFree r).isaMode = s.isaMode := by simp [State.writeGprFree]
@[simp] theorem State.inBranchDelaySlot_writeGprFree (s : State) (r : Reg) : (s.writeGprFree r).inBranchDelaySlot = s.inBranchDelaySlot := by simp [State.writeGprFree]
@[simp] theorem State.cfg_writeGprFree (s : State) (r : Reg) : (s.writeGprFree r).cfg = s.cfg := by simp [State.writeGprFree]
@[simp] theorem State.mem_writeGprFree (s : State) (r : Reg) : (s.writeGprFree r).mem = s.mem := by simp [State.writeGprFree]

@[simp] theorem State.pc_advance (s : State) : s.advance.pc = s.pc + 4#32 := rfl
@[simp] theorem State.draws_nextDraw (s : State) : s.nextDraw.draws = s.draws + 1 := rfl
@[simp] theorem State.draws_writeHiFree (s : State) (a : Acc) : (s.writeHiFree a).draws = s.draws + 1 := rfl
@[simp] theorem State.draws_writeLoFree (s : State) (a : Acc) : (s.writeLoFree a).draws = s.draws + 1 := rfl
@[simp] theorem State.draws_clobberAc0 (s : State) : s.clobberAc0.draws = s.draws + 2 := rfl
@[simp] theorem State.draws_setCcondPh (s : State) (v : BitVec 2) : (s.setCcondPh v).draws = s.draws + 1 := rfl
@[simp] theorem State.draws_setPosFree (s : State) : s.setPosFree.draws = s.draws + 1 := rfl
@[simp] theorem State.draws_writeGprFree (s : State) (r : Reg) : (s.writeGprFree r).draws = s.draws + 1 := by
  simp [State.writeGprFree]

@[simp] theorem State.dspControl_setPos (s : State) (v : BitVec 6) : (s.setPos v).dspControl = setField s.dspControl 0 v := rfl
@[simp] theorem State.dspControl_setScount (s : State) (v : BitVec 6) :
    (s.setScount v).dspControl = setField s.dspControl 7 v := rfl
@[simp] theorem State.dspControl_setCarry (s : State) (v : BitVec 1) :
    (s.setCarry v).dspControl = setField s.dspControl 13 v := rfl
@[simp] theorem State.dspControl_setEfi (s : State) (v : BitVec 1) :
    (s.setEfi v).dspControl = setField s.dspControl 14 v := rfl
@[simp] theorem State.dspControl_setOuflag (s : State) (v : BitVec 8) :
    (s.setOuflag v).dspControl = setField s.dspControl 16 v := rfl
@[simp] theorem State.dspControl_setCcond (s : State) (v : BitVec 4) :
    (s.setCcond v).dspControl = setField s.dspControl 24 v := rfl
theorem State.dspControl_setCcondPh (s : State) (v : BitVec 2) :
    (s.setCcondPh v).dspControl = setField s.dspControl 24 (Config.freeBits2 s.draws ++ v) := rfl
theorem State.dspControl_setPosFree (s : State) :
    s.setPosFree.dspControl = setField s.dspControl 0 (Config.freeBits6 s.draws) := rfl
theorem State.dspControl_flagIf (s : State) (bit : Nat) (b : Bool) :
    (s.flagIf bit b).dspControl = if b then setField s.dspControl bit 1#1 else s.dspControl := by
  cases b <;> rfl
theorem State.hiloPending_setPending (s : State) (a : Acc) (b : Bool) :
    (s.setPending a b).hiloPending = if a = 0 then b else s.hiloPending := by
  unfold State.setPending; split <;> rfl

@[simp] theorem State.flagIf_false (s : State) (bit : Nat) : s.flagIf bit false = s := rfl

end Sys2Proof.Machine
end

