-- ==== Sys2Proof/Laws/Flags.lean ====
section
/-! SUPPORT. DSPControl: one bit of it after a field is written. -/

namespace Sys2Proof.Machine

/-- A bit of a word after a field of it is written. -/
theorem getLsbD_setField (w : Word) (lo : Nat) {n : Nat} (v : BitVec n) (k : Nat) (hk : k < 32) :
    (setField w lo v).getLsbD k = if lo ≤ k ∧ k < lo + n then v.getLsbD (k - lo) else w.getLsbD k := by
  unfold setField
  by_cases h : lo ≤ k
  · by_cases h2 : k < lo + n
    · have h3 : k - lo < n := by omega
      simp [hk, h, h2, h3, show ¬ k < lo by omega]
    · have h3 : ¬ k - lo < n := by omega
      simp [hk, h2, h3, BitVec.getLsbD_of_ge v (k - lo) (by omega)]
  · simp [hk, h, show k < lo by omega]

/-- Setting a sticky bit: that bit is 1 if the flag is raised, every other bit is kept. -/
theorem State.getLsbD_flagIf (s : State) (bit : Nat) (b : Bool) (k : Nat) (hk : k < 32) :
    (s.flagIf bit b).dspControl.getLsbD k = (s.dspControl.getLsbD k || (b && decide (k = bit))) := by
  rw [State.dspControl_flagIf]
  cases b
  · simp
  · simp only [if_true, getLsbD_setField _ _ _ _ hk, Bool.true_and]
    by_cases h : k = bit
    · subst h; simp
    · rw [if_neg (by omega)]; simp [h]

/-- The written field reads as what was written. -/
theorem extract_setField (w : Word) (lo : Nat) {n : Nat} (v : BitVec n) (h : lo + n ≤ 32) :
    (setField w lo v).extractLsb' lo n = v := by
  ext k hk
  simp [getLsbD_setField _ _ _ _ (show lo + k < 32 by omega), hk]

@[simp] theorem State.pos_setPos (s : State) (v : BitVec 6) : (s.setPos v).pos = v := extract_setField _ 0 v (by omega)
@[simp] theorem State.efi_setEfi (s : State) (v : BitVec 1) : (s.setEfi v).efi = v := extract_setField _ 14 v (by omega)
@[simp] theorem State.carry_setCarry (s : State) (v : BitVec 1) : (s.setCarry v).carry = v := extract_setField _ 13 v (by omega)
@[simp] theorem State.ccond_setCcond (s : State) (v : BitVec 4) : (s.setCcond v).ccond = v := extract_setField _ 24 v (by omega)
@[simp] theorem State.scount_setScount (s : State) (v : BitVec 6) : (s.setScount v).scount = v :=
  extract_setField _ 7 v (by omega)
@[simp] theorem State.ouflag_setOuflag (s : State) (v : BitVec 8) : (s.setOuflag v).ouflag = v :=
  extract_setField _ 16 v (by omega)

end Sys2Proof.Machine
end

