-- ==== Sys2Proof/Laws/Ops.lean ====
section
/-! SUPPORT. Registers and accumulators after a write, and what each shared shape of instruction answers. -/

namespace Sys2Proof.Machine

/-- A register after a register write: register 0 reads 0 and takes no write. -/
theorem State.readGpr_writeGpr (s : State) (r : Reg) (v : Word) (q : Reg) :
    (s.writeGpr r v).readGpr q = if q = r ∧ r ≠ 0 then v else s.readGpr q := by
  unfold State.writeGpr State.readGpr
  by_cases hr : r = 0
  · simp [hr]
  · by_cases hq : q = r
    · subst hq
      simp [hr, Vector.get_eq_getElem]
    · have hne : r.val ≠ q.val := fun h => hq (Fin.ext h.symm)
      simp only [if_neg hr, if_neg (fun h : q = r ∧ r ≠ 0 => hq h.1)]
      by_cases h0 : q = 0
      · simp [h0]
      · simp only [if_neg h0]
        exact Vector.getElem_set_ne r.isLt q.isLt hne

@[simp] theorem State.readGpr_zero (s : State) : s.readGpr 0 = 0#32 := rfl

@[simp] theorem State.writeGpr_zero (s : State) (v : Word) : s.writeGpr 0 v = s := rfl

theorem State.readHi_writeHi (s : State) (a : Acc) (v : Word) (b : Acc) :
    (s.writeHi a v).readHi b = if b = a then v else s.readHi b := by
  unfold State.writeHi State.readHi
  by_cases h : b = a
  · subst h
    simp [Vector.get_eq_getElem]
  · rw [if_neg h]
    exact Vector.getElem_set_ne a.isLt b.isLt (fun h' => h (Fin.ext h'.symm))

theorem State.readLo_writeLo (s : State) (a : Acc) (v : Word) (b : Acc) :
    (s.writeLo a v).readLo b = if b = a then v else s.readLo b := by
  unfold State.writeLo State.readLo
  by_cases h : b = a
  · subst h
    simp [Vector.get_eq_getElem]
  · rw [if_neg h]
    exact Vector.getElem_set_ne a.isLt b.isLt (fun h' => h (Fin.ext h'.symm))

@[simp] theorem State.readHi_writeLo (s : State) (a : Acc) (v : Word) (b : Acc) :
    (s.writeLo a v).readHi b = s.readHi b := rfl

@[simp] theorem State.readLo_writeHi (s : State) (a : Acc) (v : Word) (b : Acc) :
    (s.writeHi a v).readLo b = s.readLo b := rfl

/-- An accumulator after an accumulator write. -/
theorem State.acc_writeAcc (s : State) (a : Acc) (v : DWord) (b : Acc) :
    (s.writeAcc a v).acc b = if b = a then v else s.acc b := by
  unfold State.acc State.writeAcc
  simp only [State.readHi_writeLo, State.readHi_writeHi, State.readLo_writeLo, State.readLo_writeHi]
  by_cases h : b = a
  · simp only [if_pos h]
    ext k hk
    simp only [BitVec.getElem_append, BitVec.getElem_extractLsb']
    split
    · simp [BitVec.getLsbD_eq_getElem hk]
    · simp [show 32 + (k - 32) = k by omega, BitVec.getLsbD_eq_getElem hk]
  · simp only [if_neg h]

/-- A guarded Operation answers a next state exactly if the access check passes and it does. -/
theorem State.guarded_eq_next {s t : State} {rev : Revision} {body : Out} :
    s.guarded rev body = .next t ↔ s.checkDSP rev = none ∧ body = .next t := by
  unfold State.guarded
  cases h : s.checkDSP rev with
  | none => simp
  | some k => cases k <;> simp [State.raise]

/-- The access check passes exactly if the revision is present and MX is 1. -/
theorem State.checkDSP_eq_none {s : State} {rev : Revision} :
    s.checkDSP rev = none ↔ Config.present s.cfg rev = true ∧ s.mx = true := by
  unfold State.checkDSP
  cases Config.present s.cfg rev <;> cases s.mx <;> simp

theorem State.retire_eq_next {s t : State} : s.retire = .next t ↔ s.advance = t := by
  simp [State.retire]

/-- All that `alu3` can do. -/
theorem State.alu3_eq_next {s t : State} {rev : Revision} {rd rs rt : Reg} {f : Word → Word → Word} :
    s.alu3 rev rd rs rt f = .next t ↔
      s.checkDSP rev = none ∧ (s.writeGpr rd (f (s.readGpr rs) (s.readGpr rt))).advance = t := by
  simp [State.alu3, State.guarded_eq_next, State.retire_eq_next]

/-- All that `alu3F` can do. -/
theorem State.alu3F_eq_next {s t : State} {rev : Revision} {bit : Nat} {rd rs rt : Reg} {f : Word → Word → Flagged 32} :
    s.alu3F rev bit rd rs rt f = .next t ↔
      s.checkDSP rev = none ∧
        ((s.flagIf bit (f (s.readGpr rs) (s.readGpr rt)).2).writeGpr rd (f (s.readGpr rs) (s.readGpr rt)).1).advance = t := by
  simp [State.alu3F, State.guarded_eq_next, State.retire_eq_next]

/-- All that `alu2` can do. -/
theorem State.alu2_eq_next {s t : State} {rev : Revision} {rt rs : Reg} {f : Word → Word} :
    s.alu2 rev rt rs f = .next t ↔ s.checkDSP rev = none ∧ (s.writeGpr rt (f (s.readGpr rs))).advance = t := by
  simp [State.alu2, State.guarded_eq_next, State.retire_eq_next]

/-- All that `alu2F` can do. -/
theorem State.alu2F_eq_next {s t : State} {rev : Revision} {bit : Nat} {rt rs : Reg} {f : Word → Flagged 32} :
    s.alu2F rev bit rt rs f = .next t ↔
      s.checkDSP rev = none ∧ ((s.flagIf bit (f (s.readGpr rs)).2).writeGpr rt (f (s.readGpr rs)).1).advance = t := by
  simp [State.alu2F, State.guarded_eq_next, State.retire_eq_next]

/-- All that `mulGpr` can do. -/
theorem State.mulGpr_eq_next {s t : State} {rev : Revision} {rd rs rt : Reg} {f : Word → Word → Flagged 32} :
    s.mulGpr rev rd rs rt f = .next t ↔
      s.checkDSP rev = none ∧
        (((s.flagIf 21 (f (s.readGpr rs) (s.readGpr rt)).2).writeGpr rd
          (f (s.readGpr rs) (s.readGpr rt)).1).clobberAc0).advance = t := by
  simp [State.mulGpr, State.guarded_eq_next, State.retire_eq_next]

/-- All that `mac` can do. -/
theorem State.mac_eq_next {s t : State} {rev : Revision} {ac : Acc} {rs rt : Reg} {f : DWord → Word → Word → DWord} :
    s.mac rev ac rs rt f = .next t ↔
      s.checkDSP rev = none ∧ (s.writeAcc ac (f (s.acc ac) (s.readGpr rs) (s.readGpr rt))).advance = t := by
  simp [State.mac, State.guarded_eq_next, State.retire_eq_next]

/-- All that `macF` can do. -/
theorem State.macF_eq_next {s t : State} {rev : Revision} {ac : Acc} {rs rt : Reg} {f : DWord → Word → Word → Flagged 64} :
    s.macF rev ac rs rt f = .next t ↔
      s.checkDSP rev = none ∧
        ((s.flagIf (16 + ac.val) (f (s.acc ac) (s.readGpr rs) (s.readGpr rt)).2).writeAcc ac
          (f (s.acc ac) (s.readGpr rs) (s.readGpr rt)).1).advance = t := by
  simp [State.macF, State.guarded_eq_next, State.retire_eq_next]

/-- All that `extr` can do. -/
theorem State.extr_eq_next {s t : State} {rev : Revision} {rt : Reg} {r : Flagged 32} :
    s.extr rev rt r = .next t ↔ s.checkDSP rev = none ∧ ((s.flagIf 23 r.2).writeGpr rt r.1).advance = t := by
  simp [State.extr, State.guarded_eq_next, State.retire_eq_next]

/-- All that `extract` can do: the field is taken and EFI cleared, or EFI is set and the register is a free value. -/
theorem State.extract_eq_next {s t : State} {rev : Revision} {rt : Reg} {ac : Acc} {size : Nat} {dec : Bool} :
    s.extract rev rt ac size dec = .next t ↔
      s.checkDSP rev = none ∧
        ((size ≤ s.pos.toNat ∧
          ((if dec then (s.setEfi 0#1).setPos (s.pos - BitVec.ofNat 6 (size + 1)) else s.setEfi 0#1).writeGpr rt
            (extractBits (s.acc ac) s.pos.toNat size)).advance = t) ∨
        (s.pos.toNat < size ∧ ((s.setEfi 1#1).writeGprFree rt).advance = t)) := by
  simp only [State.extract, State.guarded_eq_next, State.retire_eq_next]
  by_cases h : size ≤ s.pos.toNat
  · simp [h, Nat.not_lt.mpr h]
  · simp [h, Nat.lt_of_not_le h]

end Sys2Proof.Machine
end

