-- ==== Sys2Proof/Laws/PerInstr.lean ====
section
/-! SUPPORT. The family of lemmas named in LAWS.json, one lemma per instruction. -/

namespace Sys2Proof.Laws

/-- Every instruction is encoded under the major opcode of its pool: 34 for the branch, P32A for the rest (30_encoding.md R80 to R82). -/
def MajorOpcode.Statement (i : Instr) : Prop :=
  fld (encode i) 26 6 =
    match i with
    | .bposge32c _ => 34
    | _ => 8

/-- The major opcode of a word built as a number: bits 31:26 of the number. -/
theorem fld_major {q n : Nat} (h : n / 67108864 = q) (hq : q < 64) : fld (BitVec.ofNat 32 n) 26 6 = q := by
  simp only [fld, BitVec.toNat_ofNat]
  omega

/-- A two's complement field fits its width. -/
theorem twos_lt (x : Int) (len : Nat) : twos x len < 2 ^ len := by
  have h : (0 : Int) < (2 ^ len : Nat) := by exact_mod_cast Nat.two_pow_pos len
  have h1 := Int.emod_nonneg x h.ne'
  have h2 := Int.emod_lt_of_pos x h
  unfold twos
  omega

theorem MajorOpcode.addqPh (a : Reg) (b : Reg) (c : Reg) : MajorOpcode.Statement (.addqPh a b c) := by
  exact fld_major (q := 8) (n := 0x2000000D + (a.val * 2048 + b.val * 65536 + c.val * 2097152)) (by omega) (by decide)
theorem MajorOpcode.addqSPh (a : Reg) (b : Reg) (c : Reg) : MajorOpcode.Statement (.addqSPh a b c) := by
  exact fld_major (q := 8) (n := 0x2000040D + (a.val * 2048 + b.val * 65536 + c.val * 2097152)) (by omega) (by decide)
theorem MajorOpcode.addqSW (a : Reg) (b : Reg) (c : Reg) : MajorOpcode.Statement (.addqSW a b c) := by
  exact fld_major (q := 8) (n := 0x20000305 + (a.val * 2048 + b.val * 65536 + c.val * 2097152)) (by omega) (by decide)
theorem MajorOpcode.adduQb (a : Reg) (b : Reg) (c : Reg) : MajorOpcode.Statement (.adduQb a b c) := by
  exact fld_major (q := 8) (n := 0x200000CD + (a.val * 2048 + b.val * 65536 + c.val * 2097152)) (by omega) (by decide)
theorem MajorOpcode.adduSQb (a : Reg) (b : Reg) (c : Reg) : MajorOpcode.Statement (.adduSQb a b c) := by
  exact fld_major (q := 8) (n := 0x200004CD + (a.val * 2048 + b.val * 65536 + c.val * 2097152)) (by omega) (by decide)
theorem MajorOpcode.adduhQb (a : Reg) (b : Reg) (c : Reg) : MajorOpcode.Statement (.adduhQb a b c) := by
  exact fld_major (q := 8) (n := 0x2000014D + (a.val * 2048 + b.val * 65536 + c.val * 2097152)) (by omega) (by decide)
theorem MajorOpcode.adduhRQb (a : Reg) (b : Reg) (c : Reg) : MajorOpcode.Statement (.adduhRQb a b c) := by
  exact fld_major (q := 8) (n := 0x2000054D + (a.val * 2048 + b.val * 65536 + c.val * 2097152)) (by omega) (by decide)
theorem MajorOpcode.adduPh (a : Reg) (b : Reg) (c : Reg) : MajorOpcode.Statement (.adduPh a b c) := by
  exact fld_major (q := 8) (n := 0x2000010D + (a.val * 2048 + b.val * 65536 + c.val * 2097152)) (by omega) (by decide)
theorem MajorOpcode.adduSPh (a : Reg) (b : Reg) (c : Reg) : MajorOpcode.Statement (.adduSPh a b c) := by
  exact fld_major (q := 8) (n := 0x2000050D + (a.val * 2048 + b.val * 65536 + c.val * 2097152)) (by omega) (by decide)
theorem MajorOpcode.addqhPh (a : Reg) (b : Reg) (c : Reg) : MajorOpcode.Statement (.addqhPh a b c) := by
  exact fld_major (q := 8) (n := 0x2000004D + (a.val * 2048 + b.val * 65536 + c.val * 2097152)) (by omega) (by decide)
theorem MajorOpcode.addqhRPh (a : Reg) (b : Reg) (c : Reg) : MajorOpcode.Statement (.addqhRPh a b c) := by
  exact fld_major (q := 8) (n := 0x2000044D + (a.val * 2048 + b.val * 65536 + c.val * 2097152)) (by omega) (by decide)
theorem MajorOpcode.addqhW (a : Reg) (b : Reg) (c : Reg) : MajorOpcode.Statement (.addqhW a b c) := by
  exact fld_major (q := 8) (n := 0x2000008D + (a.val * 2048 + b.val * 65536 + c.val * 2097152)) (by omega) (by decide)
theorem MajorOpcode.addqhRW (a : Reg) (b : Reg) (c : Reg) : MajorOpcode.Statement (.addqhRW a b c) := by
  exact fld_major (q := 8) (n := 0x2000048D + (a.val * 2048 + b.val * 65536 + c.val * 2097152)) (by omega) (by decide)
theorem MajorOpcode.subqPh (a : Reg) (b : Reg) (c : Reg) : MajorOpcode.Statement (.subqPh a b c) := by
  exact fld_major (q := 8) (n := 0x2000020D + (a.val * 2048 + b.val * 65536 + c.val * 2097152)) (by omega) (by decide)
theorem MajorOpcode.subqSPh (a : Reg) (b : Reg) (c : Reg) : MajorOpcode.Statement (.subqSPh a b c) := by
  exact fld_major (q := 8) (n := 0x2000060D + (a.val * 2048 + b.val * 65536 + c.val * 2097152)) (by omega) (by decide)
theorem MajorOpcode.subqSW (a : Reg) (b : Reg) (c : Reg) : MajorOpcode.Statement (.subqSW a b c) := by
  exact fld_major (q := 8) (n := 0x20000345 + (a.val * 2048 + b.val * 65536 + c.val * 2097152)) (by omega) (by decide)
theorem MajorOpcode.subuQb (a : Reg) (b : Reg) (c : Reg) : MajorOpcode.Statement (.subuQb a b c) := by
  exact fld_major (q := 8) (n := 0x200002CD + (a.val * 2048 + b.val * 65536 + c.val * 2097152)) (by omega) (by decide)
theorem MajorOpcode.subuSQb (a : Reg) (b : Reg) (c : Reg) : MajorOpcode.Statement (.subuSQb a b c) := by
  exact fld_major (q := 8) (n := 0x200006CD + (a.val * 2048 + b.val * 65536 + c.val * 2097152)) (by omega) (by decide)
theorem MajorOpcode.subuhQb (a : Reg) (b : Reg) (c : Reg) : MajorOpcode.Statement (.subuhQb a b c) := by
  exact fld_major (q := 8) (n := 0x2000034D + (a.val * 2048 + b.val * 65536 + c.val * 2097152)) (by omega) (by decide)
theorem MajorOpcode.subuhRQb (a : Reg) (b : Reg) (c : Reg) : MajorOpcode.Statement (.subuhRQb a b c) := by
  exact fld_major (q := 8) (n := 0x2000074D + (a.val * 2048 + b.val * 65536 + c.val * 2097152)) (by omega) (by decide)
theorem MajorOpcode.subuPh (a : Reg) (b : Reg) (c : Reg) : MajorOpcode.Statement (.subuPh a b c) := by
  exact fld_major (q := 8) (n := 0x2000030D + (a.val * 2048 + b.val * 65536 + c.val * 2097152)) (by omega) (by decide)
theorem MajorOpcode.subuSPh (a : Reg) (b : Reg) (c : Reg) : MajorOpcode.Statement (.subuSPh a b c) := by
  exact fld_major (q := 8) (n := 0x2000070D + (a.val * 2048 + b.val * 65536 + c.val * 2097152)) (by omega) (by decide)
theorem MajorOpcode.subqhPh (a : Reg) (b : Reg) (c : Reg) : MajorOpcode.Statement (.subqhPh a b c) := by
  exact fld_major (q := 8) (n := 0x2000024D + (a.val * 2048 + b.val * 65536 + c.val * 2097152)) (by omega) (by decide)
theorem MajorOpcode.subqhRPh (a : Reg) (b : Reg) (c : Reg) : MajorOpcode.Statement (.subqhRPh a b c) := by
  exact fld_major (q := 8) (n := 0x2000064D + (a.val * 2048 + b.val * 65536 + c.val * 2097152)) (by omega) (by decide)
theorem MajorOpcode.subqhW (a : Reg) (b : Reg) (c : Reg) : MajorOpcode.Statement (.subqhW a b c) := by
  exact fld_major (q := 8) (n := 0x2000028D + (a.val * 2048 + b.val * 65536 + c.val * 2097152)) (by omega) (by decide)
theorem MajorOpcode.subqhRW (a : Reg) (b : Reg) (c : Reg) : MajorOpcode.Statement (.subqhRW a b c) := by
  exact fld_major (q := 8) (n := 0x2000068D + (a.val * 2048 + b.val * 65536 + c.val * 2097152)) (by omega) (by decide)
theorem MajorOpcode.addsc (a : Reg) (b : Reg) (c : Reg) : MajorOpcode.Statement (.addsc a b c) := by
  exact fld_major (q := 8) (n := 0x20000385 + (a.val * 2048 + b.val * 65536 + c.val * 2097152)) (by omega) (by decide)
theorem MajorOpcode.addwc (a : Reg) (b : Reg) (c : Reg) : MajorOpcode.Statement (.addwc a b c) := by
  exact fld_major (q := 8) (n := 0x200003C5 + (a.val * 2048 + b.val * 65536 + c.val * 2097152)) (by omega) (by decide)
theorem MajorOpcode.modsub (a : Reg) (b : Reg) (c : Reg) : MajorOpcode.Statement (.modsub a b c) := by
  exact fld_major (q := 8) (n := 0x20000295 + (a.val * 2048 + b.val * 65536 + c.val * 2097152)) (by omega) (by decide)
theorem MajorOpcode.precrQbPh (a : Reg) (b : Reg) (c : Reg) : MajorOpcode.Statement (.precrQbPh a b c) := by
  exact fld_major (q := 8) (n := 0x2000006D + (a.val * 2048 + b.val * 65536 + c.val * 2097152)) (by omega) (by decide)
theorem MajorOpcode.precrqQbPh (a : Reg) (b : Reg) (c : Reg) : MajorOpcode.Statement (.precrqQbPh a b c) := by
  exact fld_major (q := 8) (n := 0x200000AD + (a.val * 2048 + b.val * 65536 + c.val * 2097152)) (by omega) (by decide)
theorem MajorOpcode.precrqPhW (a : Reg) (b : Reg) (c : Reg) : MajorOpcode.Statement (.precrqPhW a b c) := by
  exact fld_major (q := 8) (n := 0x200000ED + (a.val * 2048 + b.val * 65536 + c.val * 2097152)) (by omega) (by decide)
theorem MajorOpcode.precrqRsPhW (a : Reg) (b : Reg) (c : Reg) : MajorOpcode.Statement (.precrqRsPhW a b c) := by
  exact fld_major (q := 8) (n := 0x2000012D + (a.val * 2048 + b.val * 65536 + c.val * 2097152)) (by omega) (by decide)
theorem MajorOpcode.precrquSQbPh (a : Reg) (b : Reg) (c : Reg) : MajorOpcode.Statement (.precrquSQbPh a b c) := by
  exact fld_major (q := 8) (n := 0x2000016D + (a.val * 2048 + b.val * 65536 + c.val * 2097152)) (by omega) (by decide)
theorem MajorOpcode.shllvQb (a : Reg) (b : Reg) (c : Reg) : MajorOpcode.Statement (.shllvQb a b c) := by
  exact fld_major (q := 8) (n := 0x20000395 + (a.val * 2048 + b.val * 2097152 + c.val * 65536)) (by omega) (by decide)
theorem MajorOpcode.shllvPh (a : Reg) (b : Reg) (c : Reg) : MajorOpcode.Statement (.shllvPh a b c) := by
  exact fld_major (q := 8) (n := 0x2000038D + (a.val * 2048 + b.val * 2097152 + c.val * 65536)) (by omega) (by decide)
theorem MajorOpcode.shllvSPh (a : Reg) (b : Reg) (c : Reg) : MajorOpcode.Statement (.shllvSPh a b c) := by
  exact fld_major (q := 8) (n := 0x2000078D + (a.val * 2048 + b.val * 2097152 + c.val * 65536)) (by omega) (by decide)
theorem MajorOpcode.shllvSW (a : Reg) (b : Reg) (c : Reg) : MajorOpcode.Statement (.shllvSW a b c) := by
  exact fld_major (q := 8) (n := 0x200003D5 + (a.val * 2048 + b.val * 2097152 + c.val * 65536)) (by omega) (by decide)
theorem MajorOpcode.shrlvQb (a : Reg) (b : Reg) (c : Reg) : MajorOpcode.Statement (.shrlvQb a b c) := by
  exact fld_major (q := 8) (n := 0x20000355 + (a.val * 2048 + b.val * 2097152 + c.val * 65536)) (by omega) (by decide)
theorem MajorOpcode.shrlvPh (a : Reg) (b : Reg) (c : Reg) : MajorOpcode.Statement (.shrlvPh a b c) := by
  exact fld_major (q := 8) (n := 0x20000315 + (a.val * 2048 + b.val * 2097152 + c.val * 65536)) (by omega) (by decide)
theorem MajorOpcode.shravQb (a : Reg) (b : Reg) (c : Reg) : MajorOpcode.Statement (.shravQb a b c) := by
  exact fld_major (q := 8) (n := 0x200001CD + (a.val * 2048 + b.val * 2097152 + c.val * 65536)) (by omega) (by decide)
theorem MajorOpcode.shravRQb (a : Reg) (b : Reg) (c : Reg) : MajorOpcode.Statement (.shravRQb a b c) := by
  exact fld_major (q := 8) (n := 0x200005CD + (a.val * 2048 + b.val * 2097152 + c.val * 65536)) (by omega) (by decide)
theorem MajorOpcode.shravPh (a : Reg) (b : Reg) (c : Reg) : MajorOpcode.Statement (.shravPh a b c) := by
  exact fld_major (q := 8) (n := 0x2000018D + (a.val * 2048 + b.val * 2097152 + c.val * 65536)) (by omega) (by decide)
theorem MajorOpcode.shravRPh (a : Reg) (b : Reg) (c : Reg) : MajorOpcode.Statement (.shravRPh a b c) := by
  exact fld_major (q := 8) (n := 0x2000058D + (a.val * 2048 + b.val * 2097152 + c.val * 65536)) (by omega) (by decide)
theorem MajorOpcode.shravRW (a : Reg) (b : Reg) (c : Reg) : MajorOpcode.Statement (.shravRW a b c) := by
  exact fld_major (q := 8) (n := 0x200002D5 + (a.val * 2048 + b.val * 2097152 + c.val * 65536)) (by omega) (by decide)
theorem MajorOpcode.muleuSPhQbl (a : Reg) (b : Reg) (c : Reg) : MajorOpcode.Statement (.muleuSPhQbl a b c) := by
  exact fld_major (q := 8) (n := 0x20000095 + (a.val * 2048 + b.val * 65536 + c.val * 2097152)) (by omega) (by decide)
theorem MajorOpcode.muleuSPhQbr (a : Reg) (b : Reg) (c : Reg) : MajorOpcode.Statement (.muleuSPhQbr a b c) := by
  exact fld_major (q := 8) (n := 0x200000D5 + (a.val * 2048 + b.val * 65536 + c.val * 2097152)) (by omega) (by decide)
theorem MajorOpcode.mulqRsPh (a : Reg) (b : Reg) (c : Reg) : MajorOpcode.Statement (.mulqRsPh a b c) := by
  exact fld_major (q := 8) (n := 0x20000115 + (a.val * 2048 + b.val * 65536 + c.val * 2097152)) (by omega) (by decide)
theorem MajorOpcode.muleqSWPhl (a : Reg) (b : Reg) (c : Reg) : MajorOpcode.Statement (.muleqSWPhl a b c) := by
  exact fld_major (q := 8) (n := 0x20000025 + (a.val * 2048 + b.val * 65536 + c.val * 2097152)) (by omega) (by decide)
theorem MajorOpcode.muleqSWPhr (a : Reg) (b : Reg) (c : Reg) : MajorOpcode.Statement (.muleqSWPhr a b c) := by
  exact fld_major (q := 8) (n := 0x20000065 + (a.val * 2048 + b.val * 65536 + c.val * 2097152)) (by omega) (by decide)
theorem MajorOpcode.mulPh (a : Reg) (b : Reg) (c : Reg) : MajorOpcode.Statement (.mulPh a b c) := by
  exact fld_major (q := 8) (n := 0x2000002D + (a.val * 2048 + b.val * 65536 + c.val * 2097152)) (by omega) (by decide)
theorem MajorOpcode.mulSPh (a : Reg) (b : Reg) (c : Reg) : MajorOpcode.Statement (.mulSPh a b c) := by
  exact fld_major (q := 8) (n := 0x2000042D + (a.val * 2048 + b.val * 65536 + c.val * 2097152)) (by omega) (by decide)
theorem MajorOpcode.mulqSPh (a : Reg) (b : Reg) (c : Reg) : MajorOpcode.Statement (.mulqSPh a b c) := by
  exact fld_major (q := 8) (n := 0x20000155 + (a.val * 2048 + b.val * 65536 + c.val * 2097152)) (by omega) (by decide)
theorem MajorOpcode.mulqSW (a : Reg) (b : Reg) (c : Reg) : MajorOpcode.Statement (.mulqSW a b c) := by
  exact fld_major (q := 8) (n := 0x200001D5 + (a.val * 2048 + b.val * 65536 + c.val * 2097152)) (by omega) (by decide)
theorem MajorOpcode.mulqRsW (a : Reg) (b : Reg) (c : Reg) : MajorOpcode.Statement (.mulqRsW a b c) := by
  exact fld_major (q := 8) (n := 0x20000195 + (a.val * 2048 + b.val * 65536 + c.val * 2097152)) (by omega) (by decide)
theorem MajorOpcode.cmpgduEqQb (a : Reg) (b : Reg) (c : Reg) : MajorOpcode.Statement (.cmpgduEqQb a b c) := by
  exact fld_major (q := 8) (n := 0x20000185 + (a.val * 2048 + b.val * 65536 + c.val * 2097152)) (by omega) (by decide)
theorem MajorOpcode.cmpgduLtQb (a : Reg) (b : Reg) (c : Reg) : MajorOpcode.Statement (.cmpgduLtQb a b c) := by
  exact fld_major (q := 8) (n := 0x200001C5 + (a.val * 2048 + b.val * 65536 + c.val * 2097152)) (by omega) (by decide)
theorem MajorOpcode.cmpgduLeQb (a : Reg) (b : Reg) (c : Reg) : MajorOpcode.Statement (.cmpgduLeQb a b c) := by
  exact fld_major (q := 8) (n := 0x20000205 + (a.val * 2048 + b.val * 65536 + c.val * 2097152)) (by omega) (by decide)
theorem MajorOpcode.cmpguEqQb (a : Reg) (b : Reg) (c : Reg) : MajorOpcode.Statement (.cmpguEqQb a b c) := by
  exact fld_major (q := 8) (n := 0x200000C5 + (a.val * 2048 + b.val * 65536 + c.val * 2097152)) (by omega) (by decide)
theorem MajorOpcode.cmpguLtQb (a : Reg) (b : Reg) (c : Reg) : MajorOpcode.Statement (.cmpguLtQb a b c) := by
  exact fld_major (q := 8) (n := 0x20000105 + (a.val * 2048 + b.val * 65536 + c.val * 2097152)) (by omega) (by decide)
theorem MajorOpcode.cmpguLeQb (a : Reg) (b : Reg) (c : Reg) : MajorOpcode.Statement (.cmpguLeQb a b c) := by
  exact fld_major (q := 8) (n := 0x20000145 + (a.val * 2048 + b.val * 65536 + c.val * 2097152)) (by omega) (by decide)
theorem MajorOpcode.pickQb (a : Reg) (b : Reg) (c : Reg) : MajorOpcode.Statement (.pickQb a b c) := by
  exact fld_major (q := 8) (n := 0x200001ED + (a.val * 2048 + b.val * 65536 + c.val * 2097152)) (by omega) (by decide)
theorem MajorOpcode.pickPh (a : Reg) (b : Reg) (c : Reg) : MajorOpcode.Statement (.pickPh a b c) := by
  exact fld_major (q := 8) (n := 0x2000022D + (a.val * 2048 + b.val * 65536 + c.val * 2097152)) (by omega) (by decide)
theorem MajorOpcode.packrlPh (a : Reg) (b : Reg) (c : Reg) : MajorOpcode.Statement (.packrlPh a b c) := by
  exact fld_major (q := 8) (n := 0x200001AD + (a.val * 2048 + b.val * 65536 + c.val * 2097152)) (by omega) (by decide)
theorem MajorOpcode.cmpuEqQb (a : Reg) (b : Reg) : MajorOpcode.Statement (.cmpuEqQb a b) := by
  exact fld_major (q := 8) (n := 0x20000245 + (a.val * 65536 + b.val * 2097152)) (by omega) (by decide)
theorem MajorOpcode.cmpuLtQb (a : Reg) (b : Reg) : MajorOpcode.Statement (.cmpuLtQb a b) := by
  exact fld_major (q := 8) (n := 0x20000285 + (a.val * 65536 + b.val * 2097152)) (by omega) (by decide)
theorem MajorOpcode.cmpuLeQb (a : Reg) (b : Reg) : MajorOpcode.Statement (.cmpuLeQb a b) := by
  exact fld_major (q := 8) (n := 0x200002C5 + (a.val * 65536 + b.val * 2097152)) (by omega) (by decide)
theorem MajorOpcode.cmpEqPh (a : Reg) (b : Reg) : MajorOpcode.Statement (.cmpEqPh a b) := by
  exact fld_major (q := 8) (n := 0x20000005 + (a.val * 65536 + b.val * 2097152)) (by omega) (by decide)
theorem MajorOpcode.cmpLtPh (a : Reg) (b : Reg) : MajorOpcode.Statement (.cmpLtPh a b) := by
  exact fld_major (q := 8) (n := 0x20000045 + (a.val * 65536 + b.val * 2097152)) (by omega) (by decide)
theorem MajorOpcode.cmpLePh (a : Reg) (b : Reg) : MajorOpcode.Statement (.cmpLePh a b) := by
  exact fld_major (q := 8) (n := 0x20000085 + (a.val * 65536 + b.val * 2097152)) (by omega) (by decide)
theorem MajorOpcode.precrSraPhW (a : Reg) (b : Reg) (c : Nat) : MajorOpcode.Statement (.precrSraPhW a b c) := by
  exact fld_major (q := 8) (n := 0x200003CD + (a.val * 2097152 + b.val * 65536 + c % 32 * 2048)) (by omega) (by decide)
theorem MajorOpcode.precrSraRPhW (a : Reg) (b : Reg) (c : Nat) : MajorOpcode.Statement (.precrSraRPhW a b c) := by
  exact fld_major (q := 8) (n := 0x200007CD + (a.val * 2097152 + b.val * 65536 + c % 32 * 2048)) (by omega) (by decide)
theorem MajorOpcode.shllSW (a : Reg) (b : Reg) (c : Nat) : MajorOpcode.Statement (.shllSW a b c) := by
  exact fld_major (q := 8) (n := 0x200003F5 + (a.val * 2097152 + b.val * 65536 + c % 32 * 2048)) (by omega) (by decide)
theorem MajorOpcode.shraRW (a : Reg) (b : Reg) (c : Nat) : MajorOpcode.Statement (.shraRW a b c) := by
  exact fld_major (q := 8) (n := 0x200002F5 + (a.val * 2097152 + b.val * 65536 + c % 32 * 2048)) (by omega) (by decide)
theorem MajorOpcode.shllPh (a : Reg) (b : Reg) (c : Nat) : MajorOpcode.Statement (.shllPh a b c) := by
  exact fld_major (q := 8) (n := 0x200003B5 + (a.val * 2097152 + b.val * 65536 + c % 16 * 4096)) (by omega) (by decide)
theorem MajorOpcode.shllSPh (a : Reg) (b : Reg) (c : Nat) : MajorOpcode.Statement (.shllSPh a b c) := by
  exact fld_major (q := 8) (n := 0x20000BB5 + (a.val * 2097152 + b.val * 65536 + c % 16 * 4096)) (by omega) (by decide)
theorem MajorOpcode.shraPh (a : Reg) (b : Reg) (c : Nat) : MajorOpcode.Statement (.shraPh a b c) := by
  exact fld_major (q := 8) (n := 0x20000335 + (a.val * 2097152 + b.val * 65536 + c % 16 * 4096)) (by omega) (by decide)
theorem MajorOpcode.shraRPh (a : Reg) (b : Reg) (c : Nat) : MajorOpcode.Statement (.shraRPh a b c) := by
  exact fld_major (q := 8) (n := 0x20000735 + (a.val * 2097152 + b.val * 65536 + c % 16 * 4096)) (by omega) (by decide)
theorem MajorOpcode.replPh (a : Reg) (b : Int) : MajorOpcode.Statement (.replPh a b) := by
  have h := twos_lt b 10; exact fld_major (q := 8) (n := 0x2000003D + (a.val * 2097152 + twos b 10 * 2048)) (by omega) (by decide)
theorem MajorOpcode.shilo (a : Acc) (b : Int) : MajorOpcode.Statement (.shilo a b) := by
  have h := twos_lt b 6; exact fld_major (q := 8) (n := 0x2000001D + (a.val * 16384 + twos b 6 * 65536)) (by omega) (by decide)
theorem MajorOpcode.absqSQb (a : Reg) (b : Reg) : MajorOpcode.Statement (.absqSQb a b) := by
  exact fld_major (q := 8) (n := 0x2000013F + (a.val * 2097152 + b.val * 65536)) (by omega) (by decide)
theorem MajorOpcode.absqSPh (a : Reg) (b : Reg) : MajorOpcode.Statement (.absqSPh a b) := by
  exact fld_major (q := 8) (n := 0x2000113F + (a.val * 2097152 + b.val * 65536)) (by omega) (by decide)
theorem MajorOpcode.absqSW (a : Reg) (b : Reg) : MajorOpcode.Statement (.absqSW a b) := by
  exact fld_major (q := 8) (n := 0x2000213F + (a.val * 2097152 + b.val * 65536)) (by omega) (by decide)
theorem MajorOpcode.radduWQb (a : Reg) (b : Reg) : MajorOpcode.Statement (.radduWQb a b) := by
  exact fld_major (q := 8) (n := 0x2000F13F + (a.val * 2097152 + b.val * 65536)) (by omega) (by decide)
theorem MajorOpcode.preceqWPhl (a : Reg) (b : Reg) : MajorOpcode.Statement (.preceqWPhl a b) := by
  exact fld_major (q := 8) (n := 0x2000513F + (a.val * 2097152 + b.val * 65536)) (by omega) (by decide)
theorem MajorOpcode.preceqWPhr (a : Reg) (b : Reg) : MajorOpcode.Statement (.preceqWPhr a b) := by
  exact fld_major (q := 8) (n := 0x2000613F + (a.val * 2097152 + b.val * 65536)) (by omega) (by decide)
theorem MajorOpcode.precequPhQbl (a : Reg) (b : Reg) : MajorOpcode.Statement (.precequPhQbl a b) := by
  exact fld_major (q := 8) (n := 0x2000713F + (a.val * 2097152 + b.val * 65536)) (by omega) (by decide)
theorem MajorOpcode.precequPhQbr (a : Reg) (b : Reg) : MajorOpcode.Statement (.precequPhQbr a b) := by
  exact fld_major (q := 8) (n := 0x2000913F + (a.val * 2097152 + b.val * 65536)) (by omega) (by decide)
theorem MajorOpcode.precequPhQbla (a : Reg) (b : Reg) : MajorOpcode.Statement (.precequPhQbla a b) := by
  exact fld_major (q := 8) (n := 0x2000733F + (a.val * 2097152 + b.val * 65536)) (by omega) (by decide)
theorem MajorOpcode.precequPhQbra (a : Reg) (b : Reg) : MajorOpcode.Statement (.precequPhQbra a b) := by
  exact fld_major (q := 8) (n := 0x2000933F + (a.val * 2097152 + b.val * 65536)) (by omega) (by decide)
theorem MajorOpcode.preceuPhQbl (a : Reg) (b : Reg) : MajorOpcode.Statement (.preceuPhQbl a b) := by
  exact fld_major (q := 8) (n := 0x2000B13F + (a.val * 2097152 + b.val * 65536)) (by omega) (by decide)
theorem MajorOpcode.preceuPhQbr (a : Reg) (b : Reg) : MajorOpcode.Statement (.preceuPhQbr a b) := by
  exact fld_major (q := 8) (n := 0x2000D13F + (a.val * 2097152 + b.val * 65536)) (by omega) (by decide)
theorem MajorOpcode.preceuPhQbla (a : Reg) (b : Reg) : MajorOpcode.Statement (.preceuPhQbla a b) := by
  exact fld_major (q := 8) (n := 0x2000B33F + (a.val * 2097152 + b.val * 65536)) (by omega) (by decide)
theorem MajorOpcode.preceuPhQbra (a : Reg) (b : Reg) : MajorOpcode.Statement (.preceuPhQbra a b) := by
  exact fld_major (q := 8) (n := 0x2000D33F + (a.val * 2097152 + b.val * 65536)) (by omega) (by decide)
theorem MajorOpcode.bitrev (a : Reg) (b : Reg) : MajorOpcode.Statement (.bitrev a b) := by
  exact fld_major (q := 8) (n := 0x2000313F + (a.val * 2097152 + b.val * 65536)) (by omega) (by decide)
theorem MajorOpcode.insv (a : Reg) (b : Reg) : MajorOpcode.Statement (.insv a b) := by
  exact fld_major (q := 8) (n := 0x2000413F + (a.val * 2097152 + b.val * 65536)) (by omega) (by decide)
theorem MajorOpcode.replvQb (a : Reg) (b : Reg) : MajorOpcode.Statement (.replvQb a b) := by
  exact fld_major (q := 8) (n := 0x2000133F + (a.val * 2097152 + b.val * 65536)) (by omega) (by decide)
theorem MajorOpcode.replvPh (a : Reg) (b : Reg) : MajorOpcode.Statement (.replvPh a b) := by
  exact fld_major (q := 8) (n := 0x2000033F + (a.val * 2097152 + b.val * 65536)) (by omega) (by decide)
theorem MajorOpcode.dpaWPh (a : Acc) (b : Reg) (c : Reg) : MajorOpcode.Statement (.dpaWPh a b c) := by
  exact fld_major (q := 8) (n := 0x200000BF + (a.val * 16384 + b.val * 65536 + c.val * 2097152)) (by omega) (by decide)
theorem MajorOpcode.dpaxWPh (a : Acc) (b : Reg) (c : Reg) : MajorOpcode.Statement (.dpaxWPh a b c) := by
  exact fld_major (q := 8) (n := 0x200010BF + (a.val * 16384 + b.val * 65536 + c.val * 2097152)) (by omega) (by decide)
theorem MajorOpcode.dpauHQbl (a : Acc) (b : Reg) (c : Reg) : MajorOpcode.Statement (.dpauHQbl a b c) := by
  exact fld_major (q := 8) (n := 0x200020BF + (a.val * 16384 + b.val * 65536 + c.val * 2097152)) (by omega) (by decide)
theorem MajorOpcode.dpauHQbr (a : Acc) (b : Reg) (c : Reg) : MajorOpcode.Statement (.dpauHQbr a b c) := by
  exact fld_major (q := 8) (n := 0x200030BF + (a.val * 16384 + b.val * 65536 + c.val * 2097152)) (by omega) (by decide)
theorem MajorOpcode.dpaqSWPh (a : Acc) (b : Reg) (c : Reg) : MajorOpcode.Statement (.dpaqSWPh a b c) := by
  exact fld_major (q := 8) (n := 0x200002BF + (a.val * 16384 + b.val * 65536 + c.val * 2097152)) (by omega) (by decide)
theorem MajorOpcode.dpaqSaLW (a : Acc) (b : Reg) (c : Reg) : MajorOpcode.Statement (.dpaqSaLW a b c) := by
  exact fld_major (q := 8) (n := 0x200012BF + (a.val * 16384 + b.val * 65536 + c.val * 2097152)) (by omega) (by decide)
theorem MajorOpcode.dpaqxSWPh (a : Acc) (b : Reg) (c : Reg) : MajorOpcode.Statement (.dpaqxSWPh a b c) := by
  exact fld_major (q := 8) (n := 0x200022BF + (a.val * 16384 + b.val * 65536 + c.val * 2097152)) (by omega) (by decide)
theorem MajorOpcode.dpaqxSaWPh (a : Acc) (b : Reg) (c : Reg) : MajorOpcode.Statement (.dpaqxSaWPh a b c) := by
  exact fld_major (q := 8) (n := 0x200032BF + (a.val * 16384 + b.val * 65536 + c.val * 2097152)) (by omega) (by decide)
theorem MajorOpcode.dpsWPh (a : Acc) (b : Reg) (c : Reg) : MajorOpcode.Statement (.dpsWPh a b c) := by
  exact fld_major (q := 8) (n := 0x200004BF + (a.val * 16384 + b.val * 65536 + c.val * 2097152)) (by omega) (by decide)
theorem MajorOpcode.dpsxWPh (a : Acc) (b : Reg) (c : Reg) : MajorOpcode.Statement (.dpsxWPh a b c) := by
  exact fld_major (q := 8) (n := 0x200014BF + (a.val * 16384 + b.val * 65536 + c.val * 2097152)) (by omega) (by decide)
theorem MajorOpcode.dpsuHQbl (a : Acc) (b : Reg) (c : Reg) : MajorOpcode.Statement (.dpsuHQbl a b c) := by
  exact fld_major (q := 8) (n := 0x200024BF + (a.val * 16384 + b.val * 65536 + c.val * 2097152)) (by omega) (by decide)
theorem MajorOpcode.dpsuHQbr (a : Acc) (b : Reg) (c : Reg) : MajorOpcode.Statement (.dpsuHQbr a b c) := by
  exact fld_major (q := 8) (n := 0x200034BF + (a.val * 16384 + b.val * 65536 + c.val * 2097152)) (by omega) (by decide)
theorem MajorOpcode.dpsqSWPh (a : Acc) (b : Reg) (c : Reg) : MajorOpcode.Statement (.dpsqSWPh a b c) := by
  exact fld_major (q := 8) (n := 0x200006BF + (a.val * 16384 + b.val * 65536 + c.val * 2097152)) (by omega) (by decide)
theorem MajorOpcode.dpsqSaLW (a : Acc) (b : Reg) (c : Reg) : MajorOpcode.Statement (.dpsqSaLW a b c) := by
  exact fld_major (q := 8) (n := 0x200016BF + (a.val * 16384 + b.val * 65536 + c.val * 2097152)) (by omega) (by decide)
theorem MajorOpcode.dpsqxSWPh (a : Acc) (b : Reg) (c : Reg) : MajorOpcode.Statement (.dpsqxSWPh a b c) := by
  exact fld_major (q := 8) (n := 0x200026BF + (a.val * 16384 + b.val * 65536 + c.val * 2097152)) (by omega) (by decide)
theorem MajorOpcode.dpsqxSaWPh (a : Acc) (b : Reg) (c : Reg) : MajorOpcode.Statement (.dpsqxSaWPh a b c) := by
  exact fld_major (q := 8) (n := 0x200036BF + (a.val * 16384 + b.val * 65536 + c.val * 2097152)) (by omega) (by decide)
theorem MajorOpcode.madd (a : Acc) (b : Reg) (c : Reg) : MajorOpcode.Statement (.madd a b c) := by
  exact fld_major (q := 8) (n := 0x20000ABF + (a.val * 16384 + b.val * 65536 + c.val * 2097152)) (by omega) (by decide)
theorem MajorOpcode.maddu (a : Acc) (b : Reg) (c : Reg) : MajorOpcode.Statement (.maddu a b c) := by
  exact fld_major (q := 8) (n := 0x20001ABF + (a.val * 16384 + b.val * 65536 + c.val * 2097152)) (by omega) (by decide)
theorem MajorOpcode.msub (a : Acc) (b : Reg) (c : Reg) : MajorOpcode.Statement (.msub a b c) := by
  exact fld_major (q := 8) (n := 0x20002ABF + (a.val * 16384 + b.val * 65536 + c.val * 2097152)) (by omega) (by decide)
theorem MajorOpcode.msubu (a : Acc) (b : Reg) (c : Reg) : MajorOpcode.Statement (.msubu a b c) := by
  exact fld_major (q := 8) (n := 0x20003ABF + (a.val * 16384 + b.val * 65536 + c.val * 2097152)) (by omega) (by decide)
theorem MajorOpcode.mult (a : Acc) (b : Reg) (c : Reg) : MajorOpcode.Statement (.mult a b c) := by
  exact fld_major (q := 8) (n := 0x20000CBF + (a.val * 16384 + b.val * 65536 + c.val * 2097152)) (by omega) (by decide)
theorem MajorOpcode.multu (a : Acc) (b : Reg) (c : Reg) : MajorOpcode.Statement (.multu a b c) := by
  exact fld_major (q := 8) (n := 0x20001CBF + (a.val * 16384 + b.val * 65536 + c.val * 2097152)) (by omega) (by decide)
theorem MajorOpcode.mulsaWPh (a : Acc) (b : Reg) (c : Reg) : MajorOpcode.Statement (.mulsaWPh a b c) := by
  exact fld_major (q := 8) (n := 0x20002CBF + (a.val * 16384 + b.val * 65536 + c.val * 2097152)) (by omega) (by decide)
theorem MajorOpcode.mulsaqSWPh (a : Acc) (b : Reg) (c : Reg) : MajorOpcode.Statement (.mulsaqSWPh a b c) := by
  exact fld_major (q := 8) (n := 0x20003CBF + (a.val * 16384 + b.val * 65536 + c.val * 2097152)) (by omega) (by decide)
theorem MajorOpcode.extpv (a : Reg) (b : Acc) (c : Reg) : MajorOpcode.Statement (.extpv a b c) := by
  exact fld_major (q := 8) (n := 0x200028BF + (a.val * 2097152 + b.val * 16384 + c.val * 65536)) (by omega) (by decide)
theorem MajorOpcode.extpdpv (a : Reg) (b : Acc) (c : Reg) : MajorOpcode.Statement (.extpdpv a b c) := by
  exact fld_major (q := 8) (n := 0x200038BF + (a.val * 2097152 + b.val * 16384 + c.val * 65536)) (by omega) (by decide)
theorem MajorOpcode.extrvW (a : Reg) (b : Acc) (c : Reg) : MajorOpcode.Statement (.extrvW a b c) := by
  exact fld_major (q := 8) (n := 0x20000EBF + (a.val * 2097152 + b.val * 16384 + c.val * 65536)) (by omega) (by decide)
theorem MajorOpcode.extrvRW (a : Reg) (b : Acc) (c : Reg) : MajorOpcode.Statement (.extrvRW a b c) := by
  exact fld_major (q := 8) (n := 0x20001EBF + (a.val * 2097152 + b.val * 16384 + c.val * 65536)) (by omega) (by decide)
theorem MajorOpcode.extrvRsW (a : Reg) (b : Acc) (c : Reg) : MajorOpcode.Statement (.extrvRsW a b c) := by
  exact fld_major (q := 8) (n := 0x20002EBF + (a.val * 2097152 + b.val * 16384 + c.val * 65536)) (by omega) (by decide)
theorem MajorOpcode.extrvSH (a : Reg) (b : Acc) (c : Reg) : MajorOpcode.Statement (.extrvSH a b c) := by
  exact fld_major (q := 8) (n := 0x20003EBF + (a.val * 2097152 + b.val * 16384 + c.val * 65536)) (by omega) (by decide)
theorem MajorOpcode.mfhi (a : Reg) (b : Acc) : MajorOpcode.Statement (.mfhi a b) := by
  exact fld_major (q := 8) (n := 0x2000007F + (a.val * 2097152 + b.val * 16384)) (by omega) (by decide)
theorem MajorOpcode.mflo (a : Reg) (b : Acc) : MajorOpcode.Statement (.mflo a b) := by
  exact fld_major (q := 8) (n := 0x2000107F + (a.val * 2097152 + b.val * 16384)) (by omega) (by decide)
theorem MajorOpcode.mthi (a : Reg) (b : Acc) : MajorOpcode.Statement (.mthi a b) := by
  exact fld_major (q := 8) (n := 0x2000207F + (a.val * 65536 + b.val * 16384)) (by omega) (by decide)
theorem MajorOpcode.mtlo (a : Reg) (b : Acc) : MajorOpcode.Statement (.mtlo a b) := by
  exact fld_major (q := 8) (n := 0x2000307F + (a.val * 65536 + b.val * 16384)) (by omega) (by decide)
theorem MajorOpcode.mthlip (a : Reg) (b : Acc) : MajorOpcode.Statement (.mthlip a b) := by
  exact fld_major (q := 8) (n := 0x2000027F + (a.val * 65536 + b.val * 16384)) (by omega) (by decide)
theorem MajorOpcode.shilov (a : Acc) (b : Reg) : MajorOpcode.Statement (.shilov a b) := by
  exact fld_major (q := 8) (n := 0x2000127F + (a.val * 16384 + b.val * 65536)) (by omega) (by decide)
theorem MajorOpcode.extp (a : Reg) (b : Acc) (c : Nat) : MajorOpcode.Statement (.extp a b c) := by
  exact fld_major (q := 8) (n := 0x2000267F + (a.val * 2097152 + b.val * 16384 + c % 32 * 65536)) (by omega) (by decide)
theorem MajorOpcode.extpdp (a : Reg) (b : Acc) (c : Nat) : MajorOpcode.Statement (.extpdp a b c) := by
  exact fld_major (q := 8) (n := 0x2000367F + (a.val * 2097152 + b.val * 16384 + c % 32 * 65536)) (by omega) (by decide)
theorem MajorOpcode.maqSWPhr (a : Acc) (b : Reg) (c : Reg) : MajorOpcode.Statement (.maqSWPhr a b c) := by
  exact fld_major (q := 8) (n := 0x20000A7F + (a.val * 16384 + b.val * 65536 + c.val * 2097152)) (by omega) (by decide)
theorem MajorOpcode.maqSWPhl (a : Acc) (b : Reg) (c : Reg) : MajorOpcode.Statement (.maqSWPhl a b c) := by
  exact fld_major (q := 8) (n := 0x20001A7F + (a.val * 16384 + b.val * 65536 + c.val * 2097152)) (by omega) (by decide)
theorem MajorOpcode.maqSaWPhr (a : Acc) (b : Reg) (c : Reg) : MajorOpcode.Statement (.maqSaWPhr a b c) := by
  exact fld_major (q := 8) (n := 0x20002A7F + (a.val * 16384 + b.val * 65536 + c.val * 2097152)) (by omega) (by decide)
theorem MajorOpcode.maqSaWPhl (a : Acc) (b : Reg) (c : Reg) : MajorOpcode.Statement (.maqSaWPhl a b c) := by
  exact fld_major (q := 8) (n := 0x20003A7F + (a.val * 16384 + b.val * 65536 + c.val * 2097152)) (by omega) (by decide)
theorem MajorOpcode.extrW (a : Reg) (b : Acc) (c : Nat) : MajorOpcode.Statement (.extrW a b c) := by
  exact fld_major (q := 8) (n := 0x20000E7F + (a.val * 2097152 + b.val * 16384 + c % 32 * 65536)) (by omega) (by decide)
theorem MajorOpcode.extrRW (a : Reg) (b : Acc) (c : Nat) : MajorOpcode.Statement (.extrRW a b c) := by
  exact fld_major (q := 8) (n := 0x20001E7F + (a.val * 2097152 + b.val * 16384 + c % 32 * 65536)) (by omega) (by decide)
theorem MajorOpcode.extrRsW (a : Reg) (b : Acc) (c : Nat) : MajorOpcode.Statement (.extrRsW a b c) := by
  exact fld_major (q := 8) (n := 0x20002E7F + (a.val * 2097152 + b.val * 16384 + c % 32 * 65536)) (by omega) (by decide)
theorem MajorOpcode.extrSH (a : Reg) (b : Acc) (c : Nat) : MajorOpcode.Statement (.extrSH a b c) := by
  exact fld_major (q := 8) (n := 0x20003E7F + (a.val * 2097152 + b.val * 16384 + c % 32 * 65536)) (by omega) (by decide)
theorem MajorOpcode.rddsp (a : Reg) (b : Nat) : MajorOpcode.Statement (.rddsp a b) := by
  exact fld_major (q := 8) (n := 0x2000067F + (a.val * 2097152 + b % 128 * 16384)) (by omega) (by decide)
theorem MajorOpcode.wrdsp (a : Reg) (b : Nat) : MajorOpcode.Statement (.wrdsp a b) := by
  exact fld_major (q := 8) (n := 0x2000167F + (a.val * 2097152 + b % 128 * 16384)) (by omega) (by decide)
theorem MajorOpcode.shllQb (a : Reg) (b : Reg) (c : Nat) : MajorOpcode.Statement (.shllQb a b c) := by
  exact fld_major (q := 8) (n := 0x2000087F + (a.val * 2097152 + b.val * 65536 + c % 8 * 8192)) (by omega) (by decide)
theorem MajorOpcode.shrlQb (a : Reg) (b : Reg) (c : Nat) : MajorOpcode.Statement (.shrlQb a b c) := by
  exact fld_major (q := 8) (n := 0x2000187F + (a.val * 2097152 + b.val * 65536 + c % 8 * 8192)) (by omega) (by decide)
theorem MajorOpcode.shraQb (a : Reg) (b : Reg) (c : Nat) : MajorOpcode.Statement (.shraQb a b c) := by
  exact fld_major (q := 8) (n := 0x200001FF + (a.val * 2097152 + b.val * 65536 + c % 8 * 8192)) (by omega) (by decide)
theorem MajorOpcode.shraRQb (a : Reg) (b : Reg) (c : Nat) : MajorOpcode.Statement (.shraRQb a b c) := by
  exact fld_major (q := 8) (n := 0x200011FF + (a.val * 2097152 + b.val * 65536 + c % 8 * 8192)) (by omega) (by decide)
theorem MajorOpcode.shrlPh (a : Reg) (b : Reg) (c : Nat) : MajorOpcode.Statement (.shrlPh a b c) := by
  exact fld_major (q := 8) (n := 0x200003FF + (a.val * 2097152 + b.val * 65536 + c % 16 * 4096)) (by omega) (by decide)
theorem MajorOpcode.replQb (a : Reg) (b : Nat) : MajorOpcode.Statement (.replQb a b) := by
  exact fld_major (q := 8) (n := 0x200005FF + (a.val * 2097152 + b % 256 * 8192)) (by omega) (by decide)
theorem MajorOpcode.bposge32c (a : Int) : MajorOpcode.Statement (.bposge32c a) := by
  have h := twos_lt a 15; exact fld_major (q := 34) (n := 0x88044000 + (twos a 15 / 2 % 8192 * 2 + twos a 15 / 16384)) (by omega) (by decide)

end Sys2Proof.Laws
end

