-- ==== Sys2Proof/Machine/Reference.lean ====
section
/-! DEFINITION. What the spec transcribes for reference only: five instructions that the source says are replaced by baseline
ones, APPEND, and the assembler's aliases. They have no encoding and no constructor of `Instr`; no step reaches them (92_eei_decisions.md D21; log 26). -/

namespace Sys2Proof.Machine

/-- `APPEND rt, rs, sa`: the word written to rt (46_compare_pick.md R335). The range of sa is not stated: every number is taken,
and from 32 on the result is rs. DESIGN CHOICE, log 26. -/
def refAppend (rt rs : Word) (sa : Nat) : Word := (rt <<< sa) ||| BitVec.ofNat 32 (rs.toNat % 2 ^ sa)

/-- `PREPEND rt, rs, sa`: `rs[sa-1:0] || (rt >> sa)` (46_compare_pick.md R336). The range of sa is not stated: every
number is taken, and from 32 on the result is rs. DESIGN CHOICE, log 26. -/
def refPrepend (rt rs : Word) (sa : Nat) : Word := (rt >>> sa) ||| (rs <<< (32 - sa))

/-- `BALIGN rt, rs, bp` (46_compare_pick.md R337). For bp 0 and 2 the result is UNPREDICTABLE: the n-th free value;
so it is for a bp above 3, which the two-bit operand cannot be (DESIGN CHOICE, log 26). -/
def refBalign (rt rs : Word) (bp n : Nat) : Word :=
  if bp = 1 ∨ bp = 3 then (rt <<< (8 * bp)) ||| (rs >>> (8 * (4 - bp))) else Config.freeWord n

/-- What an indexed load would come to. -/
inductive IndexedLoad where
  /-- The word for the destination register. -/
  | value (v : Word)
  /-- An Address Error exception (60_exceptions.md R408). -/
  | addressError
  /-- A byte that was never placed in memory (log 8). -/
  | unwritten
  deriving DecidableEq, Repr

/-- The load of n bytes at an address that must be a multiple of n. -/
def indexedLoad (s : State) (a : Word) (n : Nat) (extend : Nat → Word) : IndexedLoad :=
  if a.toNat % n = 0 then
    match s.memRead a n with
    | some v => .value (extend v)
    | none => .unwritten
  else .addressError

/-- `LBUX rd, rs(rt)`: a byte, zero-extended; no alignment restriction (48_load_branch.md R390). -/
def refLbux (s : State) (rs rt : Reg) : IndexedLoad :=
  indexedLoad s (s.readGpr rs + s.readGpr rt) 1 (BitVec.ofNat 32)

/-- `LHX rd, rs(rt)`: a halfword, sign-extended (48_load_branch.md R391). -/
def refLhx (s : State) (rs rt : Reg) : IndexedLoad :=
  indexedLoad s (s.readGpr rs + s.readGpr rt) 2 fun v => (BitVec.ofNat 16 v).signExtend 32

/-- `LWX rd, rs(rt)`: a word (48_load_branch.md R392; the Operation section is rebuilt, log 21). -/
def refLwx (s : State) (rs rt : Reg) : IndexedLoad :=
  indexedLoad s (s.readGpr rs + s.readGpr rt) 4 (BitVec.ofNat 32)

/-- The lane suffixes of the mnemonics (00_scope.md R29). -/
inductive LaneSuffix where
  | phl
  | phr
  | qbl
  | qbr
  | qbla
  | qbra
  deriving DecidableEq, Repr

/-- The endian-agnostic suffixes an assembler accepts, by element number in memory order (30_encoding.md R108). -/
inductive ElementSuffix where
  | ph0
  | ph1
  | qb01
  | qb23
  | qb02
  | qb13
  deriving DecidableEq, Repr

/-- The lane suffix an endian-agnostic one stands for: the alias has no encoding of its own (30_encoding.md R108; C11). -/
def ElementSuffix.lane (bigEndian : Bool) (e : ElementSuffix) : LaneSuffix :=
  match e with
  | .ph0 => if bigEndian then .phl else .phr
  | .ph1 => if bigEndian then .phr else .phl
  | .qb01 => if bigEndian then .qbl else .qbr
  | .qb23 => if bigEndian then .qbr else .qbl
  | .qb02 => if bigEndian then .qbla else .qbra
  | .qb13 => if bigEndian then .qbra else .qbla

/-- The mask that RDDSP and WRDSP stand for when written with one operand: all fields but EFI (30_encoding.md R109(a)). -/
def oneOperandMask : Nat := 31

end Sys2Proof.Machine
end

