-- ==== Sys2Proof/Tests/Slice0.lean ====
section
/-! SUPPORT. Tests. Expected words and values are those of the Example lines and vectors of the spec (95_test_vectors.md and the
instruction rules); the witnesses show states and operands that meet the hypotheses of each statement. -/

namespace Sys2Proof.Tests

open Sys2Proof.Machine Sys2Proof.Claims

/-! ## WellFormed: an ill-formed term for each check -/

theorem test_wf_refuses_shift_amounts :
    Instr.wf (.precrSraPhW 1 2 32) = false ∧ Instr.wf (.precrSraRPhW 1 2 32) = false ∧ Instr.wf (.shllSW 1 2 32) = false ∧
    Instr.wf (.shraRW 1 2 32) = false ∧ Instr.wf (.shllQb 1 2 8) = false ∧ Instr.wf (.shrlQb 1 2 8) = false ∧
    Instr.wf (.shraQb 1 2 8) = false ∧ Instr.wf (.shraRQb 1 2 8) = false ∧ Instr.wf (.shllPh 1 2 16) = false ∧
    Instr.wf (.shllSPh 1 2 16) = false ∧ Instr.wf (.shrlPh 1 2 16) = false ∧ Instr.wf (.shraPh 1 2 16) = false ∧
    Instr.wf (.shraRPh 1 2 16) = false := by decide

theorem test_wf_refuses_immediates :
    Instr.wf (.replQb 1 256) = false ∧ Instr.wf (.replPh 1 512) = false ∧ Instr.wf (.replPh 1 (-513)) = false ∧
    Instr.wf (.extrW 1 2 32) = false ∧ Instr.wf (.extrRW 1 2 32) = false ∧ Instr.wf (.extrRsW 1 2 32) = false ∧
    Instr.wf (.extrSH 1 2 32) = false ∧ Instr.wf (.extp 1 2 32) = false ∧ Instr.wf (.extpdp 1 2 32) = false ∧
    Instr.wf (.shilo 1 32) = false ∧ Instr.wf (.shilo 1 (-33)) = false ∧ Instr.wf (.wrdsp 1 128) = false ∧
    Instr.wf (.rddsp 1 128) = false := by decide

theorem test_wf_refuses_branch_offsets :
    Instr.wf (.bposge32c 3) = false ∧ Instr.wf (.bposge32c 16384) = false ∧ Instr.wf (.bposge32c (-16386)) = false := by decide

theorem test_wf_accepts_the_ends :
    Instr.wf (.replPh 1 (-512)) = true ∧ Instr.wf (.replPh 1 511) = true ∧ Instr.wf (.shilo 1 (-32)) = true ∧
    Instr.wf (.shilo 1 31) = true ∧ Instr.wf (.bposge32c (-16384)) = true ∧ Instr.wf (.bposge32c 16382) = true := by decide

/-! ## Decode: a word of the spec for every constructor -/

/-- Each word decodes to its instruction and is its encoding. -/
def decodesAs (rows : List (Word × Instr)) : Bool :=
  rows.all fun p => decide (decode p.1 = some p.2) && decide (encode p.2 = p.1) && decide (decodeTableWord 32 p.1.toNat = some p.2)

theorem test_decode_arithmetic :
    decodesAs [(0x20A4180D#32, .addqPh 3 4 5), (0x20A41C0D#32, .addqSPh 3 4 5), (0x20A41B05#32, .addqSW 3 4 5),
      (0x20A418CD#32, .adduQb 3 4 5), (0x20A41CCD#32, .adduSQb 3 4 5), (0x20A4194D#32, .adduhQb 3 4 5),
      (0x20A41D4D#32, .adduhRQb 3 4 5), (0x20A4190D#32, .adduPh 3 4 5), (0x20A41D0D#32, .adduSPh 3 4 5),
      (0x20A4184D#32, .addqhPh 3 4 5), (0x20A41C4D#32, .addqhRPh 3 4 5), (0x20A4188D#32, .addqhW 3 4 5),
      (0x20A41C8D#32, .addqhRW 3 4 5), (0x20A41A0D#32, .subqPh 3 4 5), (0x20A41E0D#32, .subqSPh 3 4 5),
      (0x20A41B45#32, .subqSW 3 4 5), (0x20A41ACD#32, .subuQb 3 4 5), (0x20A41ECD#32, .subuSQb 3 4 5),
      (0x20A41B4D#32, .subuhQb 3 4 5), (0x20A41F4D#32, .subuhRQb 3 4 5), (0x20A41B0D#32, .subuPh 3 4 5),
      (0x20A41F0D#32, .subuSPh 3 4 5), (0x20A41A4D#32, .subqhPh 3 4 5), (0x20A41E4D#32, .subqhRPh 3 4 5),
      (0x20A41A8D#32, .subqhW 3 4 5), (0x20A41E8D#32, .subqhRW 3 4 5), (0x20A41B85#32, .addsc 3 4 5),
      (0x20A41BC5#32, .addwc 3 4 5), (0x20A41A95#32, .modsub 3 4 5), (0x2043013F#32, .absqSQb 2 3),
      (0x2043113F#32, .absqSPh 2 3), (0x2043213F#32, .absqSW 2 3), (0x2043F13F#32, .radduWQb 2 3)] = true := by decide

theorem test_decode_precision :
    decodesAs [(0x20A4186D#32, .precrQbPh 3 4 5), (0x20A418AD#32, .precrqQbPh 3 4 5), (0x20A418ED#32, .precrqPhW 3 4 5),
      (0x20A4192D#32, .precrqRsPhW 3 4 5), (0x20A4196D#32, .precrquSQbPh 3 4 5), (0x204323CD#32, .precrSraPhW 2 3 4),
      (0x204327CD#32, .precrSraRPhW 2 3 4), (0x2043513F#32, .preceqWPhl 2 3), (0x2043613F#32, .preceqWPhr 2 3),
      (0x2043713F#32, .precequPhQbl 2 3), (0x2043913F#32, .precequPhQbr 2 3), (0x2043733F#32, .precequPhQbla 2 3),
      (0x2043933F#32, .precequPhQbra 2 3), (0x2043B13F#32, .preceuPhQbl 2 3), (0x2043D13F#32, .preceuPhQbr 2 3),
      (0x2043B33F#32, .preceuPhQbla 2 3), (0x2043D33F#32, .preceuPhQbra 2 3)] = true := by decide

theorem test_decode_shift :
    decodesAs [(0x20641395#32, .shllvQb 2 3 4), (0x2064138D#32, .shllvPh 2 3 4), (0x2064178D#32, .shllvSPh 2 3 4),
      (0x206413D5#32, .shllvSW 2 3 4), (0x20641355#32, .shrlvQb 2 3 4), (0x20641315#32, .shrlvPh 2 3 4),
      (0x206411CD#32, .shravQb 2 3 4), (0x206415CD#32, .shravRQb 2 3 4), (0x2064118D#32, .shravPh 2 3 4),
      (0x2064158D#32, .shravRPh 2 3 4), (0x206412D5#32, .shravRW 2 3 4), (0x2043FBF5#32, .shllSW 2 3 31),
      (0x204322F5#32, .shraRW 2 3 4), (0x204343B5#32, .shllPh 2 3 4), (0x20434BB5#32, .shllSPh 2 3 4),
      (0x20434335#32, .shraPh 2 3 4), (0x20434735#32, .shraRPh 2 3 4), (0x2043487F#32, .shllQb 2 3 2),
      (0x2043787F#32, .shrlQb 2 3 3), (0x204341FF#32, .shraQb 2 3 2), (0x204351FF#32, .shraRQb 2 3 2),
      (0x204343FF#32, .shrlPh 2 3 4)] = true := by decide

theorem test_decode_multiplyGpr :
    decodesAs [(0x20831095#32, .muleuSPhQbl 2 3 4), (0x208310D5#32, .muleuSPhQbr 2 3 4), (0x20831115#32, .mulqRsPh 2 3 4),
      (0x20831025#32, .muleqSWPhl 2 3 4), (0x20831065#32, .muleqSWPhr 2 3 4), (0x2083102D#32, .mulPh 2 3 4),
      (0x2083142D#32, .mulSPh 2 3 4), (0x20831155#32, .mulqSPh 2 3 4), (0x208311D5#32, .mulqSW 2 3 4),
      (0x20831195#32, .mulqRsW 2 3 4)] = true := by decide

theorem test_decode_multiplyAcc :
    decodesAs [(0x208340BF#32, .dpaWPh 1 3 4), (0x208350BF#32, .dpaxWPh 1 3 4), (0x208360BF#32, .dpauHQbl 1 3 4),
      (0x208370BF#32, .dpauHQbr 1 3 4), (0x208342BF#32, .dpaqSWPh 1 3 4), (0x208352BF#32, .dpaqSaLW 1 3 4),
      (0x208362BF#32, .dpaqxSWPh 1 3 4), (0x2083B2BF#32, .dpaqxSaWPh 2 3 4), (0x208344BF#32, .dpsWPh 1 3 4),
      (0x208354BF#32, .dpsxWPh 1 3 4), (0x2083A4BF#32, .dpsuHQbl 2 3 4), (0x2083F4BF#32, .dpsuHQbr 3 3 4),
      (0x208346BF#32, .dpsqSWPh 1 3 4), (0x208356BF#32, .dpsqSaLW 1 3 4), (0x208366BF#32, .dpsqxSWPh 1 3 4),
      (0x2083F6BF#32, .dpsqxSaWPh 3 3 4), (0x20834ABF#32, .madd 1 3 4), (0x20835ABF#32, .maddu 1 3 4),
      (0x20836ABF#32, .msub 1 3 4), (0x20837ABF#32, .msubu 1 3 4), (0x20834CBF#32, .mult 1 3 4),
      (0x20835CBF#32, .multu 1 3 4), (0x20836CBF#32, .mulsaWPh 1 3 4), (0x20837CBF#32, .mulsaqSWPh 1 3 4),
      (0x20834A7F#32, .maqSWPhr 1 3 4), (0x20835A7F#32, .maqSWPhl 1 3 4), (0x20836A7F#32, .maqSaWPhr 1 3 4),
      (0x20837A7F#32, .maqSaWPhl 1 3 4)] = true := by decide

theorem test_decode_bitManip :
    decodesAs [(0x205FF03D#32, .replPh 2 (-2)), (0x2043313F#32, .bitrev 2 3), (0x2043413F#32, .insv 2 3),
      (0x2043133F#32, .replvQb 2 3), (0x2043033F#32, .replvPh 2 3), (0x205025FF#32, .replQb 2 129)] = true := by decide

theorem test_decode_comparePick :
    decodesAs [(0x20831185#32, .cmpgduEqQb 2 3 4), (0x208311C5#32, .cmpgduLtQb 2 3 4), (0x20831205#32, .cmpgduLeQb 2 3 4),
      (0x208310C5#32, .cmpguEqQb 2 3 4), (0x20831105#32, .cmpguLtQb 2 3 4), (0x20831145#32, .cmpguLeQb 2 3 4),
      (0x208311ED#32, .pickQb 2 3 4), (0x2083122D#32, .pickPh 2 3 4), (0x208311AD#32, .packrlPh 2 3 4),
      (0x20830245#32, .cmpuEqQb 3 4), (0x20830285#32, .cmpuLtQb 3 4), (0x208302C5#32, .cmpuLeQb 3 4),
      (0x20830005#32, .cmpEqPh 3 4), (0x20830045#32, .cmpLtPh 3 4), (0x20830085#32, .cmpLePh 3 4)] = true := by decide

theorem test_decode_accAccess :
    decodesAs [(0x2004401D#32, .shilo 1 4), (0x204368BF#32, .extpv 2 1 3), (0x204378BF#32, .extpdpv 2 1 3),
      (0x20434EBF#32, .extrvW 2 1 3), (0x20435EBF#32, .extrvRW 2 1 3), (0x20436EBF#32, .extrvRsW 2 1 3),
      (0x20437EBF#32, .extrvSH 2 1 3), (0x2040407F#32, .mfhi 2 1), (0x2040507F#32, .mflo 2 1),
      (0x2003607F#32, .mthi 3 1), (0x2003707F#32, .mtlo 3 1), (0x2003427F#32, .mthlip 3 1), (0x2003527F#32, .shilov 1 3),
      (0x2047667F#32, .extp 2 1 7), (0x2047767F#32, .extpdp 2 1 7), (0x20444E7F#32, .extrW 2 1 4),
      (0x20445E7F#32, .extrRW 2 1 4), (0x20446E7F#32, .extrRsW 2 1 4), (0x20447E7F#32, .extrSH 2 1 4),
      (0x204FC67F#32, .rddsp 2 63), (0x2047D67F#32, .wrdsp 2 31)] = true := by decide

theorem test_decode_branch :
    decodesAs [(0x88044008#32, .bposge32c 8)] = true := by decide

/-- Words that match no row: baseline majors, unused cells of the pools, and BPOSGE32C with another fixed field. -/
theorem test_decode_refuses :
    decode 0x00000000#32 = none ∧ decode 0x20000015#32 = none ∧ decode 0x200003DD#32 = none ∧ decode 0x2000083F#32 = none ∧
    decode 0x200007FF#32 = none ∧ decode 0x88048000#32 = none ∧ decode 0x88054000#32 = none ∧ decode 0xFFFFFFFF#32 = none := by
  decide

/-- Bits printed x are ignored (30_encoding.md R84): SHRA.PH bit 11, BPOSGE32C bits 25:21. -/
theorem test_decode_ignores_x :
    decode 0x20434B35#32 = decode 0x20434335#32 ∧ decode 0x8BE44008#32 = decode 0x88044008#32 := by decide

/-! ## One step of each instruction -/

/-- A state with the module enabled, all registers 0, and the given registers, accumulators and DSPControl. -/
def start (g : List (Reg × Word)) (acs : List (Acc × DWord)) (d : Word) : State :=
  let zero : State := { State.reset with gpr := Vector.replicate 32 0#32, hi := Vector.replicate 4 0#32, lo := Vector.replicate 4 0#32 }
  acs.foldl (fun s p => s.writeAcc p.1 p.2) (g.foldl (fun s p => s.writeGpr p.1 p.2) { zero with pc := 0x1000#32, dspControl := d })

/-- One vector: a word, the inputs, and the expected registers, accumulators and (mask, value) of DSPControl. -/
structure Case where
  word : Nat
  gprs : List (Reg × Word)
  acs : List (Acc × DWord)
  dsp : Word
  gprs' : List (Reg × Word)
  acs' : List (Acc × DWord)
  dspMask : Word
  dsp' : Word
  pc' : Word

/-- The step of a vector gives what it expects. -/
def Case.holds (c : Case) : Bool :=
  match step ((start c.gprs c.acs c.dsp).withFetchWord 32 c.word) with
  | .next t =>
    c.gprs'.all (fun p => t.readGpr p.1 == p.2) && c.acs'.all (fun p => t.acc p.1 == p.2) &&
      t.dspControl &&& c.dspMask == c.dsp' && t.pc == c.pc'
  | .fault _ => false
  | .refused _ => false

theorem test_step_arithmetic_a : [
    ⟨0x20A4180D, [(4, 0x7FFF8000#32), (5, 0x0001FFFF#32)], [], 0x00000000#32, [(3, 0x80007FFF#32)], [], 0x00100000#32, 0x00100000#32, 0x00001004#32⟩,
    ⟨0x20A41C0D, [(4, 0x7FFF8000#32), (5, 0x0001FFFF#32)], [], 0x00000000#32, [(3, 0x7FFF8000#32)], [], 0x00100000#32, 0x00100000#32, 0x00001004#32⟩,
    ⟨0x20A41B05, [(4, 0x7FFFFFFF#32), (5, 0x00000001#32)], [], 0x00000000#32, [(3, 0x7FFFFFFF#32)], [], 0x00100000#32, 0x00100000#32, 0x00001004#32⟩,
    ⟨0x20A418CD, [(4, 0xFF0180FE#32), (5, 0x01018003#32)], [], 0x00000000#32, [(3, 0x00020001#32)], [], 0x00100000#32, 0x00100000#32, 0x00001004#32⟩,
    ⟨0x20A41CCD, [(4, 0xFF0180FE#32), (5, 0x01018003#32)], [], 0x00000000#32, [(3, 0xFF02FFFF#32)], [], 0x00100000#32, 0x00100000#32, 0x00001004#32⟩,
    ⟨0x20A4194D, [(4, 0xFF0180FE#32), (5, 0xFF028003#32)], [], 0x00000000#32, [(3, 0xFF018080#32)], [], 0xFFFFFFFF#32, 0x00000000#32, 0x00001004#32⟩,
    ⟨0x20A41D4D, [(4, 0xFF0180FE#32), (5, 0xFF028003#32)], [], 0x00000000#32, [(3, 0xFF028081#32)], [], 0xFFFFFFFF#32, 0x00000000#32, 0x00001004#32⟩,
    ⟨0x20A4190D, [(4, 0xFFFF0001#32), (5, 0x00020003#32)], [], 0x00000000#32, [(3, 0x00010004#32)], [], 0x00100000#32, 0x00100000#32, 0x00001004#32⟩,
    ⟨0x20A41D0D, [(4, 0xFFFF0001#32), (5, 0x00020003#32)], [], 0x00000000#32, [(3, 0xFFFF0004#32)], [], 0x00100000#32, 0x00100000#32, 0x00001004#32⟩,
    ⟨0x20A4184D, [(4, 0xFFFF8000#32), (5, 0x00008000#32)], [], 0x00000000#32, [(3, 0xFFFF8000#32)], [], 0xFFFFFFFF#32, 0x00000000#32, 0x00001004#32⟩,
    ⟨0x20A41C4D, [(4, 0xFFFF8000#32), (5, 0x00008000#32)], [], 0x00000000#32, [(3, 0x00008000#32)], [], 0xFFFFFFFF#32, 0x00000000#32, 0x00001004#32⟩,
    ⟨0x20A4188D, [(4, 0x7FFFFFFF#32), (5, 0x7FFFFFFF#32)], [], 0x00000000#32, [(3, 0x7FFFFFFF#32)], [], 0xFFFFFFFF#32, 0x00000000#32, 0x00001004#32⟩,
    ⟨0x20A41C8D, [(4, 0xFFFFFFFF#32), (5, 0x00000000#32)], [], 0x00000000#32, [(3, 0x00000000#32)], [], 0xFFFFFFFF#32, 0x00000000#32, 0x00001004#32⟩,
    ⟨0x20A41A0D, [(4, 0x80000001#32), (5, 0x00010002#32)], [], 0x00000000#32, [(3, 0x7FFFFFFF#32)], [], 0x00100000#32, 0x00100000#32, 0x00001004#32⟩,
    ⟨0x20A41E0D, [(4, 0x80007FFF#32), (5, 0x0001FFFF#32)], [], 0x00000000#32, [(3, 0x80007FFF#32)], [], 0x00100000#32, 0x00100000#32, 0x00001004#32⟩,
    ⟨0x20A41B45, [(4, 0x80000000#32), (5, 0x00000001#32)], [], 0x00000000#32, [(3, 0x80000000#32)], [], 0x00100000#32, 0x00100000#32, 0x00001004#32⟩,
    ⟨0x20A41ACD, [(4, 0x00108005#32), (5, 0x01107F06#32)], [], 0x00000000#32, [(3, 0xFF0001FF#32)], [], 0x00100000#32, 0x00100000#32, 0x00001004#32⟩,
    ⟨0x20A41ECD, [(4, 0x00108005#32), (5, 0x01107F06#32)], [], 0x00000000#32, [(3, 0x00000100#32)], [], 0x00100000#32, 0x00100000#32, 0x00001004#32⟩].all Case.holds = true := by decide

theorem test_step_arithmetic_b : [
    ⟨0x20A41B4D, [(4, 0x00108005#32), (5, 0x01107F06#32)], [], 0x00000000#32, [(3, 0xFF0000FF#32)], [], 0xFFFFFFFF#32, 0x00000000#32, 0x00001004#32⟩,
    ⟨0x20A41F4D, [(4, 0x00108005#32), (5, 0x01107F06#32)], [], 0x00000000#32, [(3, 0x00000100#32)], [], 0xFFFFFFFF#32, 0x00000000#32, 0x00001004#32⟩,
    ⟨0x20A41B0D, [(4, 0x00010005#32), (5, 0x00020003#32)], [], 0x00000000#32, [(3, 0xFFFF0002#32)], [], 0x00100000#32, 0x00100000#32, 0x00001004#32⟩,
    ⟨0x20A41F0D, [(4, 0x00010005#32), (5, 0x00020003#32)], [], 0x00000000#32, [(3, 0x00000002#32)], [], 0x00100000#32, 0x00100000#32, 0x00001004#32⟩,
    ⟨0x20A41A4D, [(4, 0x7FFF8000#32), (5, 0x80007FFF#32)], [], 0x00000000#32, [(3, 0x7FFF8000#32)], [], 0xFFFFFFFF#32, 0x00000000#32, 0x00001004#32⟩,
    ⟨0x20A41E4D, [(4, 0x7FFF8000#32), (5, 0x80007FFF#32)], [], 0x00000000#32, [(3, 0x80008001#32)], [], 0xFFFFFFFF#32, 0x00000000#32, 0x00001004#32⟩,
    ⟨0x20A41A8D, [(4, 0x80000000#32), (5, 0x7FFFFFFF#32)], [], 0x00000000#32, [(3, 0x80000000#32)], [], 0xFFFFFFFF#32, 0x00000000#32, 0x00001004#32⟩,
    ⟨0x20A41E8D, [(4, 0x7FFFFFFF#32), (5, 0x80000000#32)], [], 0x00000000#32, [(3, 0x80000000#32)], [], 0xFFFFFFFF#32, 0x00000000#32, 0x00001004#32⟩,
    ⟨0x20A41B85, [(4, 0xFFFFFFFF#32), (5, 0x00000001#32)], [], 0x00000000#32, [(3, 0x00000000#32)], [], 0x00FF2000#32, 0x00002000#32, 0x00001004#32⟩,
    ⟨0x20A41BC5, [(4, 0x7FFFFFFF#32), (5, 0x00000000#32)], [], 0x00002000#32, [(3, 0x80000000#32)], [], 0x00100000#32, 0x00100000#32, 0x00001004#32⟩,
    ⟨0x20A41A95, [(5, 0x00012C04#32), (4, 0x00000000#32)], [], 0x00000000#32, [(3, 0x0000012C#32)], [], 0x00000000#32, 0x00000000#32, 0x00001004#32⟩,
    ⟨0x2043013F, [(3, 0x80FF7F00#32)], [], 0x00000000#32, [(2, 0x7F017F00#32)], [], 0x00100000#32, 0x00100000#32, 0x00001004#32⟩,
    ⟨0x2043113F, [(3, 0x8000FFFE#32)], [], 0x00000000#32, [(2, 0x7FFF0002#32)], [], 0x00100000#32, 0x00100000#32, 0x00001004#32⟩,
    ⟨0x2043213F, [(3, 0x80000000#32)], [], 0x00000000#32, [(2, 0x7FFFFFFF#32)], [], 0x00100000#32, 0x00100000#32, 0x00001004#32⟩,
    ⟨0x2043F13F, [(3, 0x80808080#32)], [], 0x00000000#32, [(2, 0x00000200#32)], [], 0x00000000#32, 0x00000000#32, 0x00001004#32⟩].all Case.holds = true := by decide

theorem test_step_precision : [
    ⟨0x20A4186D, [(4, 0x11223344#32), (5, 0x55667788#32)], [], 0x00000000#32, [(3, 0x22446688#32)], [], 0x00000000#32, 0x00000000#32, 0x00001004#32⟩,
    ⟨0x20A418AD, [(4, 0x11223344#32), (5, 0x55667788#32)], [], 0x00000000#32, [(3, 0x11335577#32)], [], 0x00000000#32, 0x00000000#32, 0x00001004#32⟩,
    ⟨0x20A418ED, [(4, 0x12348000#32), (5, 0xABCDFFFF#32)], [], 0x00000000#32, [(3, 0x1234ABCD#32)], [], 0x00000000#32, 0x00000000#32, 0x00001004#32⟩,
    ⟨0x20A4192D, [(4, 0x7FFF8000#32), (5, 0x12348000#32)], [], 0x00000000#32, [(3, 0x7FFF1235#32)], [], 0x00400000#32, 0x00400000#32, 0x00001004#32⟩,
    ⟨0x20A4196D, [(4, 0x7F807F81#32), (5, 0x80004000#32)], [], 0x00000000#32, [(3, 0xFFFF0080#32)], [], 0x00400000#32, 0x00400000#32, 0x00001004#32⟩,
    ⟨0x204323CD, [(2, 0x12345678#32), (3, 0xFFFF8888#32)], [], 0x00000000#32, [(2, 0x4567F888#32)], [], 0x00000000#32, 0x00000000#32, 0x00001004#32⟩,
    ⟨0x204327CD, [(2, 0x12345678#32), (3, 0xFFFF8888#32)], [], 0x00000000#32, [(2, 0x4568F889#32)], [], 0x00000000#32, 0x00000000#32, 0x00001004#32⟩,
    ⟨0x2043513F, [(3, 0x8001ABCD#32)], [], 0x00000000#32, [(2, 0x80010000#32)], [], 0x00000000#32, 0x00000000#32, 0x00001004#32⟩,
    ⟨0x2043613F, [(3, 0x8001ABCD#32)], [], 0x00000000#32, [(2, 0xABCD0000#32)], [], 0x00000000#32, 0x00000000#32, 0x00001004#32⟩,
    ⟨0x2043713F, [(3, 0xFF804001#32)], [], 0x00000000#32, [(2, 0x7F804000#32)], [], 0x00000000#32, 0x00000000#32, 0x00001004#32⟩,
    ⟨0x2043913F, [(3, 0xFF804001#32)], [], 0x00000000#32, [(2, 0x20000080#32)], [], 0x00000000#32, 0x00000000#32, 0x00001004#32⟩,
    ⟨0x2043733F, [(3, 0xFF804001#32)], [], 0x00000000#32, [(2, 0x7F802000#32)], [], 0x00000000#32, 0x00000000#32, 0x00001004#32⟩,
    ⟨0x2043933F, [(3, 0xFF804001#32)], [], 0x00000000#32, [(2, 0x40000080#32)], [], 0x00000000#32, 0x00000000#32, 0x00001004#32⟩,
    ⟨0x2043B13F, [(3, 0xFF804001#32)], [], 0x00000000#32, [(2, 0x00FF0080#32)], [], 0x00000000#32, 0x00000000#32, 0x00001004#32⟩,
    ⟨0x2043D13F, [(3, 0xFF804001#32)], [], 0x00000000#32, [(2, 0x00400001#32)], [], 0x00000000#32, 0x00000000#32, 0x00001004#32⟩,
    ⟨0x2043B33F, [(3, 0xFF804001#32)], [], 0x00000000#32, [(2, 0x00FF0040#32)], [], 0x00000000#32, 0x00000000#32, 0x00001004#32⟩,
    ⟨0x2043D33F, [(3, 0xFF804001#32)], [], 0x00000000#32, [(2, 0x00800001#32)], [], 0x00000000#32, 0x00000000#32, 0x00001004#32⟩].all Case.holds = true := by decide

theorem test_step_shift_a : [
    ⟨0x20641395, [(3, 0x81020304#32), (4, 0xFFFFFFF9#32)], [], 0x00000000#32, [(2, 0x02040608#32)], [], 0x00400000#32, 0x00400000#32, 0x00001004#32⟩,
    ⟨0x2064138D, [(3, 0x4000C000#32), (4, 0x00000001#32)], [], 0x00000000#32, [(2, 0x80008000#32)], [], 0x00400000#32, 0x00400000#32, 0x00001004#32⟩,
    ⟨0x2064178D, [(3, 0x0001FFFF#32), (4, 0x0000000F#32)], [], 0x00000000#32, [(2, 0x7FFF8000#32)], [], 0x00400000#32, 0x00400000#32, 0x00001004#32⟩,
    ⟨0x206413D5, [(3, 0x00400000#32), (4, 0x00000029#32)], [], 0x00000000#32, [(2, 0x7FFFFFFF#32)], [], 0x00400000#32, 0x00400000#32, 0x00001004#32⟩,
    ⟨0x20641355, [(3, 0x80FF7F01#32), (4, 0x00000008#32)], [], 0x00000000#32, [(2, 0x80FF7F01#32)], [], 0xFFFFFFFF#32, 0x00000000#32, 0x00001004#32⟩,
    ⟨0x20641315, [(3, 0x80007FFF#32), (4, 0x00000010#32)], [], 0x00000000#32, [(2, 0x80007FFF#32)], [], 0xFFFFFFFF#32, 0x00000000#32, 0x00001004#32⟩,
    ⟨0x206411CD, [(3, 0x807F05FB#32), (4, 0xFFFFFFFF#32)], [], 0x00000000#32, [(2, 0xFF0000FF#32)], [], 0xFFFFFFFF#32, 0x00000000#32, 0x00001004#32⟩,
    ⟨0x206415CD, [(3, 0xC07F4080#32), (4, 0x0000000F#32)], [], 0x00000000#32, [(2, 0x000101FF#32)], [], 0xFFFFFFFF#32, 0x00000000#32, 0x00001004#32⟩,
    ⟨0x2064118D, [(3, 0x80007FFF#32), (4, 0x0000001F#32)], [], 0x00000000#32, [(2, 0xFFFF0000#32)], [], 0xFFFFFFFF#32, 0x00000000#32, 0x00001004#32⟩,
    ⟨0x2064158D, [(3, 0x4000C000#32), (4, 0x0000002F#32)], [], 0x00000000#32, [(2, 0x00010000#32)], [], 0xFFFFFFFF#32, 0x00000000#32, 0x00001004#32⟩,
    ⟨0x206412D5, [(3, 0x7FFFFFFF#32), (4, 0x0000003F#32)], [], 0x00000000#32, [(2, 0x00000001#32)], [], 0xFFFFFFFF#32, 0x00000000#32, 0x00001004#32⟩,
    ⟨0x2043FBF5, [(3, 0xFFFFFFFF#32)], [], 0x00000000#32, [(2, 0x80000000#32)], [], 0xFFFFFFFF#32, 0x00000000#32, 0x00001004#32⟩,
    ⟨0x2043FAF5, [(3, 0x7FFFFFFF#32)], [], 0x00000000#32, [(2, 0x00000001#32)], [], 0xFFFFFFFF#32, 0x00000000#32, 0x00001004#32⟩,
    ⟨0x204343B5, [(3, 0x1000F7FF#32)], [], 0x00000000#32, [(2, 0x00007FF0#32)], [], 0x00400000#32, 0x00400000#32, 0x00001004#32⟩,
    ⟨0x20434BB5, [(3, 0x1000F7FF#32)], [], 0x00000000#32, [(2, 0x7FFF8000#32)], [], 0x00400000#32, 0x00400000#32, 0x00001004#32⟩,
    ⟨0x2043F335, [(3, 0x80007FFF#32)], [], 0x00000000#32, [(2, 0xFFFF0000#32)], [], 0xFFFFFFFF#32, 0x00000000#32, 0x00001004#32⟩,
    ⟨0x2043F735, [(3, 0x4000C000#32)], [], 0x00000000#32, [(2, 0x00010000#32)], [], 0xFFFFFFFF#32, 0x00000000#32, 0x00001004#32⟩,
    ⟨0x2043487F, [(3, 0x40FF0138#32)], [], 0x00000000#32, [(2, 0x00FC04E0#32)], [], 0x00400000#32, 0x00400000#32, 0x00001004#32⟩].all Case.holds = true := by decide

theorem test_step_shift_b : [
    ⟨0x2043F87F, [(3, 0x80FF7F01#32)], [], 0x00000000#32, [(2, 0x01010000#32)], [], 0xFFFFFFFF#32, 0x00000000#32, 0x00001004#32⟩,
    ⟨0x204301FF, [(3, 0x80FF7F01#32)], [], 0x00000000#32, [(2, 0x80FF7F01#32)], [], 0xFFFFFFFF#32, 0x00000000#32, 0x00001004#32⟩,
    ⟨0x2043F1FF, [(3, 0xC07F4080#32)], [], 0x00000000#32, [(2, 0x000101FF#32)], [], 0xFFFFFFFF#32, 0x00000000#32, 0x00001004#32⟩,
    ⟨0x2043F3FF, [(3, 0x80007FFF#32)], [], 0x00000000#32, [(2, 0x00010000#32)], [], 0xFFFFFFFF#32, 0x00000000#32, 0x00001004#32⟩].all Case.holds = true := by decide

theorem test_step_multiplyGpr : [
    ⟨0x20831095, [(3, 0x02FF0000#32), (4, 0x7FFF0101#32)], [], 0x00000000#32, [(2, 0xFFFEFFFF#32)], [], 0x00200000#32, 0x00000000#32, 0x00001004#32⟩,
    ⟨0x208310D5, [(3, 0xAAAA0280#32), (4, 0x80000200#32)], [], 0x00000000#32, [(2, 0xFFFFFFFF#32)], [], 0x00200000#32, 0x00200000#32, 0x00001004#32⟩,
    ⟨0x20831115, [(3, 0x80004000#32), (4, 0x80004000#32)], [], 0x00000000#32, [(2, 0x7FFF2000#32)], [], 0x00200000#32, 0x00200000#32, 0x00001004#32⟩,
    ⟨0x20831025, [(3, 0x80001234#32), (4, 0x8000ABCD#32)], [], 0x00000000#32, [(2, 0x7FFFFFFF#32)], [], 0x00200000#32, 0x00200000#32, 0x00001004#32⟩,
    ⟨0x20831065, [(3, 0x00008000#32), (4, 0x00008000#32)], [], 0x00000000#32, [(2, 0x7FFFFFFF#32)], [], 0x00200000#32, 0x00200000#32, 0x00001004#32⟩,
    ⟨0x2083102D, [(3, 0x0003FFFE#32), (4, 0x00050007#32)], [], 0x00000000#32, [(2, 0x000FFFF2#32)], [], 0x00200000#32, 0x00000000#32, 0x00001004#32⟩,
    ⟨0x2083142D, [(3, 0x01000100#32), (4, 0x0100FF00#32)], [], 0x00000000#32, [(2, 0x7FFF8000#32)], [], 0x00200000#32, 0x00200000#32, 0x00001004#32⟩,
    ⟨0x20831155, [(3, 0x80004000#32), (4, 0x80004000#32)], [], 0x00000000#32, [(2, 0x7FFF2000#32)], [], 0x00200000#32, 0x00200000#32, 0x00001004#32⟩,
    ⟨0x208311D5, [(3, 0x80000000#32), (4, 0x80000000#32)], [], 0x00000000#32, [(2, 0x7FFFFFFF#32)], [], 0x00200000#32, 0x00200000#32, 0x00001004#32⟩,
    ⟨0x20831195, [(3, 0x80000000#32), (4, 0x80000000#32)], [], 0x00000000#32, [(2, 0x7FFFFFFF#32)], [], 0x00200000#32, 0x00200000#32, 0x00001004#32⟩].all Case.holds = true := by decide

theorem test_step_multiplyAcc_a : [
    ⟨0x208340BF, [(3, 0x80008000#32), (4, 0x80008000#32)], [(1, 0x7FFFFFFFFFFFFFFF#64)], 0x00000000#32, [], [(1, 0x800000007FFFFFFF#64)], 0xFFFFFFFF#32, 0x00000000#32, 0x00001004#32⟩,
    ⟨0x208350BF, [(3, 0x00020003#32), (4, 0x00040005#32)], [(1, 0x000000000000000A#64)], 0x00000000#32, [], [(1, 0x0000000000000020#64)], 0x00000000#32, 0x00000000#32, 0x00001004#32⟩,
    ⟨0x208320BF, [(3, 0xFFFF0000#32), (4, 0xFFFF0000#32)], [(0, 0xFFFFFFFFFFFFFFFF#64)], 0x00000000#32, [], [(0, 0x000000000001FC01#64)], 0xFFFFFFFF#32, 0x00000000#32, 0x00001004#32⟩,
    ⟨0x208370BF, [(3, 0xAAAA1002#32), (4, 0xBBBB1003#32)], [(1, 0x0000000000000000#64)], 0x00000000#32, [], [(1, 0x0000000000000106#64)], 0x00000000#32, 0x00000000#32, 0x00001004#32⟩,
    ⟨0x208342BF, [(3, 0x80004000#32), (4, 0x80004000#32)], [(1, 0x0000000000000000#64)], 0x00000000#32, [], [(1, 0x000000009FFFFFFF#64)], 0x00020000#32, 0x00020000#32, 0x00001004#32⟩,
    ⟨0x208352BF, [(3, 0x80000000#32), (4, 0x80000000#32)], [(1, 0x0000000000000001#64)], 0x00000000#32, [], [(1, 0x7FFFFFFFFFFFFFFF#64)], 0x00020000#32, 0x00020000#32, 0x00001004#32⟩,
    ⟨0x208362BF, [(3, 0x80004000#32), (4, 0x40008000#32)], [(1, 0x0000000000000000#64)], 0x00000000#32, [], [(1, 0x000000009FFFFFFF#64)], 0x00020000#32, 0x00020000#32, 0x00001004#32⟩,
    ⟨0x2083B2BF, [(3, 0x80008000#32), (4, 0x80008000#32)], [(2, 0x0000000000000000#64)], 0x00000000#32, [], [(2, 0x000000007FFFFFFF#64)], 0x00040000#32, 0x00040000#32, 0x00001004#32⟩,
    ⟨0x208344BF, [(3, 0x80008000#32), (4, 0x80008000#32)], [(1, 0x0000000000000000#64)], 0x00000000#32, [], [(1, 0xFFFFFFFF80000000#64)], 0xFFFFFFFF#32, 0x00000000#32, 0x00001004#32⟩,
    ⟨0x208354BF, [(3, 0x0002FFFF#32), (4, 0x00040005#32)], [(1, 0x0000000000000000#64)], 0x00000000#32, [], [(1, 0xFFFFFFFFFFFFFFFA#64)], 0x00000000#32, 0x00000000#32, 0x00001004#32⟩,
    ⟨0x2083A4BF, [(3, 0x02030000#32), (4, 0x04050000#32)], [(2, 0x0000000000000000#64)], 0x00000000#32, [], [(2, 0xFFFFFFFFFFFFFFE9#64)], 0x00000000#32, 0x00000000#32, 0x00001004#32⟩,
    ⟨0x208374BF, [(3, 0x0000FFFF#32), (4, 0x0000FFFF#32)], [(1, 0x0000000000000000#64)], 0x00000000#32, [], [(1, 0xFFFFFFFFFFFE03FE#64)], 0xFFFFFFFF#32, 0x00000000#32, 0x00001004#32⟩,
    ⟨0x208386BF, [(3, 0x80000000#32), (4, 0x80000000#32)], [(2, 0x0000000000000000#64)], 0x00000000#32, [], [(2, 0xFFFFFFFF80000001#64)], 0x00040000#32, 0x00040000#32, 0x00001004#32⟩,
    ⟨0x208356BF, [(3, 0x40000000#32), (4, 0x40000000#32)], [(1, 0x8000000000000000#64)], 0x00000000#32, [], [(1, 0x8000000000000000#64)], 0x00020000#32, 0x00020000#32, 0x00001004#32⟩,
    ⟨0x208366BF, [(3, 0x40000000#32), (4, 0x00004000#32)], [(1, 0x0000000000000000#64)], 0x00000000#32, [], [(1, 0xFFFFFFFFE0000000#64)], 0x00000000#32, 0x00000000#32, 0x00001004#32⟩,
    ⟨0x2083F6BF, [(3, 0x80008000#32), (4, 0x80008000#32)], [(3, 0x0000000000000000#64)], 0x00000000#32, [], [(3, 0xFFFFFFFF80000000#64)], 0x00080000#32, 0x00080000#32, 0x00001004#32⟩,
    ⟨0x20830ABF, [(3, 0x80000000#32), (4, 0x80000000#32)], [(0, 0x4000000000000000#64)], 0x00000000#32, [], [(0, 0x8000000000000000#64)], 0xFFFFFFFF#32, 0x00000000#32, 0x00001004#32⟩,
    ⟨0x2083DABF, [(3, 0xFFFFFFFF#32), (4, 0xFFFFFFFF#32)], [(3, 0x00000001FFFFFFFF#64)], 0x00000000#32, [], [(3, 0x0000000000000000#64)], 0xFFFFFFFF#32, 0x00000000#32, 0x00001004#32⟩].all Case.holds = true := by decide

theorem test_step_multiplyAcc_b : [
    ⟨0x2083AABF, [(3, 0x80000000#32), (4, 0x00000001#32)], [(2, 0x8000000000000000#64)], 0x00000000#32, [], [(2, 0x8000000080000000#64)], 0xFFFFFFFF#32, 0x00000000#32, 0x00001004#32⟩,
    ⟨0x2083BABF, [(3, 0x00000001#32), (4, 0x00000001#32)], [(2, 0x0000000000000000#64)], 0x00000000#32, [], [(2, 0xFFFFFFFFFFFFFFFF#64)], 0xFFFFFFFF#32, 0x00000000#32, 0x00001004#32⟩,
    ⟨0x2083CCBF, [(3, 0x80000000#32), (4, 0x80000000#32)], [(3, 0xAAAAAAAABBBBBBBB#64)], 0x00000000#32, [], [(3, 0x4000000000000000#64)], 0xFFFFFFFF#32, 0x00000000#32, 0x00001004#32⟩,
    ⟨0x20835CBF, [(3, 0xFFFFFFFE#32), (4, 0x00000003#32)], [], 0x00000000#32, [], [(1, 0x00000002FFFFFFFA#64)], 0x00000000#32, 0x00000000#32, 0x00001004#32⟩,
    ⟨0x2083ACBF, [(3, 0x80007FFF#32), (4, 0x80007FFF#32)], [(2, 0x0000000000000000#64)], 0x00000000#32, [], [(2, 0x000000000000FFFF#64)], 0xFFFFFFFF#32, 0x00000000#32, 0x00001004#32⟩,
    ⟨0x20837CBF, [(3, 0x80004000#32), (4, 0x80004000#32)], [(1, 0x0000000000000000#64)], 0x00000000#32, [], [(1, 0x000000005FFFFFFF#64)], 0x00020000#32, 0x00020000#32, 0x00001004#32⟩,
    ⟨0x20834A7F, [(3, 0x12348000#32), (4, 0x56788000#32)], [(1, 0xFFFFFFFFFFFFFFFF#64)], 0x00000000#32, [], [(1, 0x000000007FFFFFFE#64)], 0x00020000#32, 0x00020000#32, 0x00001004#32⟩,
    ⟨0x20831A7F, [(3, 0x80000000#32), (4, 0x80000000#32)], [(0, 0x7FFFFFFFFFFFFFFF#64)], 0x00000000#32, [], [(0, 0x800000007FFFFFFE#64)], 0x00010000#32, 0x00010000#32, 0x00001004#32⟩,
    ⟨0x20836A7F, [(3, 0x00004000#32), (4, 0x0000C000#32)], [(1, 0xFFFFFFFF90000000#64)], 0x00000000#32, [], [(1, 0xFFFFFFFF80000000#64)], 0x00020000#32, 0x00020000#32, 0x00001004#32⟩,
    ⟨0x20837A7F, [(3, 0x40000000#32), (4, 0x40000000#32)], [(1, 0x0000000070000000#64)], 0x00000000#32, [], [(1, 0x000000007FFFFFFF#64)], 0x00020000#32, 0x00020000#32, 0x00001004#32⟩].all Case.holds = true := by decide

theorem test_step_bitManip : [
    ⟨0x205FF03D, [], [], 0x00000000#32, [(2, 0xFFFEFFFE#32)], [], 0x00000000#32, 0x00000000#32, 0x00001004#32⟩,
    ⟨0x2043313F, [(3, 0xFFFF1234#32)], [], 0x00000000#32, [(2, 0x00002C48#32)], [], 0x00000000#32, 0x00000000#32, 0x00001004#32⟩,
    ⟨0x2043413F, [(2, 0xAAAAAAAA#32), (3, 0x12345678#32)], [], 0x00001000#32, [(2, 0x12345678#32)], [], 0xFFFFFFFF#32, 0x00001000#32, 0x00001004#32⟩,
    ⟨0x2043133F, [(3, 0x123456AB#32)], [], 0x00000000#32, [(2, 0xABABABAB#32)], [], 0x00000000#32, 0x00000000#32, 0x00001004#32⟩,
    ⟨0x2043033F, [(3, 0x1234BEEF#32)], [], 0x00000000#32, [(2, 0xBEEFBEEF#32)], [], 0x00000000#32, 0x00000000#32, 0x00001004#32⟩,
    ⟨0x205025FF, [], [], 0x00000000#32, [(2, 0x81818181#32)], [], 0x00000000#32, 0x00000000#32, 0x00001004#32⟩].all Case.holds = true := by decide

theorem test_step_comparePick : [
    ⟨0x20831185, [(3, 0x11FF3380#32), (4, 0x11003390#32)], [], 0x00000000#32, [(2, 0x0000000A#32)], [], 0x0F000000#32, 0x0A000000#32, 0x00001004#32⟩,
    ⟨0x208311C5, [(3, 0x11FF3380#32), (4, 0x11003390#32)], [], 0x00000000#32, [(2, 0x00000001#32)], [], 0x0F000000#32, 0x01000000#32, 0x00001004#32⟩,
    ⟨0x20831205, [(3, 0x11FF3380#32), (4, 0x11003390#32)], [], 0x00000000#32, [(2, 0x0000000B#32)], [], 0x0F000000#32, 0x0B000000#32, 0x00001004#32⟩,
    ⟨0x208310C5, [(3, 0x11FF3380#32), (4, 0x11003390#32)], [], 0x00000000#32, [(2, 0x0000000A#32)], [], 0xFFFFFFFF#32, 0x00000000#32, 0x00001004#32⟩,
    ⟨0x20831105, [(3, 0x80FF7F00#32), (4, 0x7F00807F#32)], [], 0x0F000000#32, [(2, 0x00000003#32)], [], 0xFFFFFFFF#32, 0x0F000000#32, 0x00001004#32⟩,
    ⟨0x20831145, [(3, 0x80FF7F00#32), (4, 0x7F00807F#32)], [], 0x0F000000#32, [(2, 0x00000003#32)], [], 0xFFFFFFFF#32, 0x0F000000#32, 0x00001004#32⟩,
    ⟨0x208311ED, [(3, 0x11223344#32), (4, 0xAABBCCDD#32)], [], 0x0A000000#32, [(2, 0x11BB33DD#32)], [], 0x00000000#32, 0x00000000#32, 0x00001004#32⟩,
    ⟨0x2083122D, [(3, 0x11223344#32), (4, 0xAABBCCDD#32)], [], 0x01000000#32, [(2, 0xAABB3344#32)], [], 0x00000000#32, 0x00000000#32, 0x00001004#32⟩,
    ⟨0x208311AD, [(3, 0x11223344#32), (4, 0xAABBCCDD#32)], [], 0x00000000#32, [(2, 0x3344AABB#32)], [], 0x00000000#32, 0x00000000#32, 0x00001004#32⟩,
    ⟨0x20830245, [(3, 0x11FF3380#32), (4, 0x11003390#32)], [], 0x00000000#32, [], [], 0x0F000000#32, 0x0A000000#32, 0x00001004#32⟩,
    ⟨0x20830285, [(3, 0x11FF3380#32), (4, 0x11003390#32)], [], 0x00000000#32, [], [], 0x0F000000#32, 0x01000000#32, 0x00001004#32⟩,
    ⟨0x208302C5, [(3, 0x11FF3380#32), (4, 0x11003390#32)], [], 0x00000000#32, [], [], 0x0F000000#32, 0x0B000000#32, 0x00001004#32⟩].all Case.holds = true := by decide

theorem test_step_accAccess_a : [
    ⟨0x2000801D, [], [(2, 0x8000000000000001#64)], 0x00000000#32, [], [(2, 0x8000000000000001#64)], 0x00000000#32, 0x00000000#32, 0x00001004#32⟩,
    ⟨0x204368BF, [(3, 0x00000007#32)], [(1, 0x0000000012345678#64)], 0x0000000F#32, [(2, 0x00000056#32)], [], 0x00004000#32, 0x00000000#32, 0x00001004#32⟩,
    ⟨0x204378BF, [(3, 0x00000007#32)], [(1, 0x0000000012345678#64)], 0x0000000F#32, [(2, 0x00000056#32)], [], 0x0000403F#32, 0x00000007#32, 0x00001004#32⟩,
    ⟨0x20434EBF, [(3, 0xFFFFFFE4#32)], [(1, 0x0000000123456789#64)], 0x00000000#32, [(2, 0x12345678#32)], [], 0x00000000#32, 0x00000000#32, 0x00001004#32⟩,
    ⟨0x20435EBF, [(3, 0x00000004#32)], [(1, 0x0000000123456789#64)], 0x00000000#32, [(2, 0x12345679#32)], [], 0x00000000#32, 0x00000000#32, 0x00001004#32⟩,
    ⟨0x20436EBF, [(3, 0x00000004#32)], [(1, 0x00000007FFFFFFF8#64)], 0x00000000#32, [(2, 0x7FFFFFFF#32)], [], 0x00800000#32, 0x00800000#32, 0x00001004#32⟩,
    ⟨0x20437EBF, [(3, 0x00000004#32)], [(1, 0x0000000000012340#64)], 0x00000000#32, [(2, 0x00001234#32)], [], 0x00000000#32, 0x00000000#32, 0x00001004#32⟩,
    ⟨0x2040407F, [], [(1, 0x0123456789ABCDEF#64)], 0x00000000#32, [(2, 0x01234567#32)], [], 0x00000000#32, 0x00000000#32, 0x00001004#32⟩,
    ⟨0x2040507F, [], [(1, 0x0123456789ABCDEF#64)], 0x00000000#32, [(2, 0x89ABCDEF#32)], [], 0x00000000#32, 0x00000000#32, 0x00001004#32⟩,
    ⟨0x2003607F, [(3, 0xCAFEF00D#32)], [(1, 0x0123456789ABCDEF#64)], 0x00000000#32, [], [(1, 0xCAFEF00D89ABCDEF#64)], 0x00000000#32, 0x00000000#32, 0x00001004#32⟩,
    ⟨0x2003707F, [(3, 0xCAFEF00D#32)], [(1, 0x0123456789ABCDEF#64)], 0x00000000#32, [], [(1, 0x01234567CAFEF00D#64)], 0x00000000#32, 0x00000000#32, 0x00001004#32⟩,
    ⟨0x2003427F, [(3, 0x33333333#32)], [(1, 0x1111111122222222#64)], 0x00000008#32, [], [(1, 0x2222222233333333#64)], 0x0000003F#32, 0x00000028#32, 0x00001004#32⟩,
    ⟨0x2003527F, [(3, 0xFFFFFFFC#32)], [(1, 0x0123456789ABCDEF#64)], 0x00000000#32, [], [(1, 0x123456789ABCDEF0#64)], 0x00000000#32, 0x00000000#32, 0x00001004#32⟩,
    ⟨0x205F667F, [], [(1, 0x123456789ABCDEF0#64)], 0x0000401F#32, [(2, 0x9ABCDEF0#32)], [], 0xFFFFFFFF#32, 0x0000001F#32, 0x00001004#32⟩,
    ⟨0x2047767F, [], [(1, 0x0000000012345678#64)], 0x0000000F#32, [(2, 0x00000056#32)], [], 0x0000403F#32, 0x00000007#32, 0x00001004#32⟩,
    ⟨0x20444E7F, [], [(1, 0x0000000123456789#64)], 0x00000000#32, [(2, 0x12345678#32)], [], 0x00800000#32, 0x00000000#32, 0x00001004#32⟩,
    ⟨0x20445E7F, [], [(1, 0x00000007FFFFFFF8#64)], 0x00000000#32, [(2, 0x80000000#32)], [], 0x00800000#32, 0x00800000#32, 0x00001004#32⟩,
    ⟨0x20446E7F, [], [(1, 0x00000007FFFFFFF8#64)], 0x00000000#32, [(2, 0x7FFFFFFF#32)], [], 0x00800000#32, 0x00800000#32, 0x00001004#32⟩].all Case.holds = true := by decide

theorem test_step_accAccess_b : [
    ⟨0x20447E7F, [], [(1, 0x0000000123456789#64)], 0x00000000#32, [(2, 0x00007FFF#32)], [], 0x00800000#32, 0x00800000#32, 0x00001004#32⟩,
    ⟨0x204FC67F, [], [], 0x0FFF7FBF#32, [(2, 0x0FFF7FBF#32)], [], 0x00000000#32, 0x00000000#32, 0x00001004#32⟩,
    ⟨0x2040167F, [(2, 0x00000000#32)], [], 0x0FFF7FBF#32, [(2, 0x00000000#32)], [], 0x00000000#32, 0x00000000#32, 0x00001004#32⟩].all Case.holds = true := by decide

theorem test_step_branch :
    Case.holds ⟨0x88044008, [], [], 0x00000028#32, [], [], 0xFFFFFFFF#32, 0x00000028#32, 0x0000100C#32⟩ = true ∧
    Case.holds ⟨0x88044008, [], [], 0x0000001F#32, [], [], 0xFFFFFFFF#32, 0x0000001F#32, 0x00001004#32⟩ = true := by decide

/-- CMP.cond.PH (46_compare_pick.md R330 to R332): the condition bits of the Example lines; bits 27:26 are free. -/
theorem test_compare_halfwords :
    condPh (fun a b => decide (a = b)) 0x80000005#32 0x7FFF0005#32 = 0b01#2 ∧
    condPh (fun a b => decide (a.toInt < b.toInt)) 0x80000005#32 0x7FFF0005#32 = 0b10#2 ∧
    condPh (fun a b => decide (a.toInt ≤ b.toInt)) 0x80000005#32 0x7FFF0005#32 = 0b11#2 := by decide

/-- A store and a fetch in each byte order: the first halfword of the word comes first, bytes in the order of BigEndianMem. -/
theorem test_word_bytes :
    wordToBytes Config.thisHardware 0x20A4180D#32 = [0xA4#8, 0x20#8, 0x0D#8, 0x18#8] ∧
    wordToBytes { Config.thisHardware with bigEndianMem := true } 0x20A4180D#32 = [0x20#8, 0xA4#8, 0x18#8, 0x0D#8] ∧
    wordToBytes { Config.thisHardware with fetchLayout := .word } 0x20A4180D#32 = [0x0D#8, 0x18#8, 0xA4#8, 0x20#8] := by decide

theorem test_reset_memory_wf : Memory.wf State.reset.mem := by decide

/-- MULT to ac0 sets hilo_pending; with MX = 0 it faults and changes nothing (70_reset_and_hazards.md R446; 60_exceptions.md R402). -/
theorem test_pending :
    (match step ((start [(4, 2#32), (5, 3#32)] [] 0#32).withFetchWord 32 0x20A40CBF) with
      | .next t => t.hiloPending && t.acc 0 == 6#64
      | .fault _ => false
      | .refused _ => false) = true ∧
    (match step { (start [] [] 0#32).withFetchWord 32 0x20A40CBF with status := 0#32 } with
      | .fault f => f == .dspDisabled 0x1000#32
      | .next _ => false
      | .refused _ => false) = true := by decide

/-! ## Witnesses: the hypotheses of each statement can be met -/

/-- An outcome that is a next state. -/
def isNext (o : Out) : Bool :=
  match o with
  | .next _ => true
  | .fault _ => false
  | .refused _ => false

theorem exists_next {o : Out} (h : isNext o = true) : ∃ t, o = .next t := by
  cases o with
  | next t => exact ⟨t, rfl⟩
  | fault f => cases h
  | refused r => cases h

theorem enabled_start (g : List (Reg × Word)) (d : Word) (rev : Revision) : Enabled (start g [] d) rev := by
  suffices h : (start g [] d).cfg = Config.thisHardware ∧ (start g [] d).status = 0x01000000#32 by
    unfold Enabled
    rw [h.1, h.2]
    exact ⟨by decide, fun _ => by decide, by decide⟩
  have key : ∀ (l : List (Reg × Word)) (s : State), s.cfg = Config.thisHardware → s.status = 0x01000000#32 →
      (l.foldl (fun s p => s.writeGpr p.1 p.2) s).cfg = Config.thisHardware ∧
        (l.foldl (fun s p => s.writeGpr p.1 p.2) s).status = 0x01000000#32 := by
    intro l
    induction l with
    | nil => exact fun s h1 h2 => ⟨h1, h2⟩
    | cons p l ih =>
      intro s h1 h2
      refine ih _ ?_ ?_
      · exact (State.cfg_writeGpr s p.1 p.2).trans h1
      · exact (State.status_writeGpr s p.1 p.2).trans h2
  exact key g _ rfl rfl

theorem witness_StepKeepsTheMachineInvariant :
    MachineInv ((start [(4, 1#32)] [] 0#32).withFetchWord 32 0x20A4180D) ∧
      ∃ t, step ((start [(4, 1#32)] [] 0#32).withFetchWord 32 0x20A4180D) = .next t :=
  ⟨by unfold Claims.MachineInv; decide, exists_next (by decide)⟩

theorem witness_DecodeOfEncodeIsTheInstruction :
    Instr.wf (.shilo 3 (-32)) = true ∧ Instr.wf (.bposge32c (-16384)) = true ∧ Instr.wf (.addqPh 31 0 31) = true :=
  by decide

theorem witness_StepRunsTheDecodedInstruction :
    (((start [] [] 0#32).withFetchWord 32 0x20A4180D).fetchWord = some 0x20A4180D#32 ∧
      decode 0x20A4180D#32 = some (.addqPh 3 4 5)) ∧
    (((start [] [] 0#32).withFetchWord 32 0).fetchWord = some 0#32 ∧ decode 0#32 = none) ∧
    (start [] [] 0#32).fetchWord = none :=
  by decide

theorem witness_PlacedWordIsTheWordFetched :
    Memory.wf { start [] [] 0#32 with pc := 0xFFFFFFFE#32 }.mem :=
  by decide

theorem witness_MemReadAfterMemWriteGivesTheValue :
    Memory.wf ((start [] [] 0#32).memWrite 0xFFFFFFFD#32 4 0x12345678).mem :=
  by decide

theorem witness_MemWriteLeavesOtherBytes :
    Memory.wf ((start [] [] 0#32).memWrite 0xFFFFFFFD#32 4 0x12345678).mem ∧
      ∀ k, k < 4 → (1 : Nat) ≠ (0xFFFFFFFD#32 + BitVec.ofNat 32 k).toNat :=
  by decide

/-- `start` with all registers 0, the given presence bits (Config3) and Status. -/
def withBits (config3 status : Word) : State :=
  { start [] [] 0#32 with cfg := { Config.thisHardware with config3 := config3 }, status := status }

/-- The fault of an outcome. -/
def faultOf (o : Out) : Option Fault :=
  match o with
  | .fault f => some f
  | .next _ => none
  | .refused _ => none

/-- Every row of Table 3.7 (60_exceptions.md R404) has a state, and on it a Rev1 instruction, a Rev2 one and the branch answer as the
row says. -/
theorem witness_AccessCheckFollowsTable37 :
    (revisionOf (.addqPh 1 2 3) = .rev1 ∧ revisionOf (.mulPh 1 2 3) ≠ .rev1 ∧ revisionOf (.bposge32c 0) ≠ .rev1) ∧
    ([Instr.addqPh 1 2 3, .mulPh 1 2 3, .bposge32c 0].map fun i => faultOf (exec i (withBits 0#32 0x01000000#32))) =
      [some (.reservedInstruction 0x1000#32), some (.reservedInstruction 0x1000#32), some (.reservedInstruction 0x1000#32)] ∧
    ([Instr.addqPh 1 2 3, .mulPh 1 2 3, .bposge32c 0].map fun i => faultOf (exec i (withBits 0x400#32 0#32))) =
      [some (.dspDisabled 0x1000#32), some (.reservedInstruction 0x1000#32), some (.reservedInstruction 0x1000#32)] ∧
    ([Instr.addqPh 1 2 3, .mulPh 1 2 3, .bposge32c 0].map fun i => faultOf (exec i (withBits 0x400#32 0x01000000#32))) =
      [none, some (.reservedInstruction 0x1000#32), some (.reservedInstruction 0x1000#32)] ∧
    ([Instr.addqPh 1 2 3, .mulPh 1 2 3, .bposge32c 0].map fun i => faultOf (exec i (withBits 0xC00#32 0#32))) =
      [some (.dspDisabled 0x1000#32), some (.dspDisabled 0x1000#32), some (.dspDisabled 0x1000#32)] ∧
    ([Instr.addqPh 1 2 3, .mulPh 1 2 3, .bposge32c 0].map fun i => faultOf (exec i (withBits 0xC00#32 0x01000000#32))) =
      [none, none, none] := by decide

theorem witness_EveryEnabledInstructionCompletes :
    Enabled (start [] [] 0#32) (revisionOf (.insv 1 2)) ∧ Enabled (start [] [] 0#32) (revisionOf (.addqPh 1 2 3)) ∧
      ¬ Unpredictable (.addqPh 1 2 3) (start [] [] 0#32) ∧ ¬ Unpredictable (.insv 1 2) (start [] [] 0x00000080#32) :=
  ⟨enabled_start _ _ _, enabled_start _ _ _, (fun ⟨⟨_, _, h⟩, _⟩ => by cases h), fun h => absurd h.2 (by decide)⟩

theorem witness_InsvWithSizeZeroIsRefused :
    Enabled (start [] [] 0x0000003F#32) .rev1 ∧ (start [] [] 0x0000003F#32).dspControl.extractLsb' 7 6 = 0#6 :=
  ⟨enabled_start _ _ _, by decide⟩

theorem witness_EnvironmentNeverChanges :
    (∃ t, exec (.wrdsp 2 31) (start [] [] 0#32) = .next t) :=
  exists_next (by decide)

theorem witness_OnlyTheDestinationRegisterChanges :
    (destGpr (.addqPh 3 4 5) ≠ some 4 ∧ (∃ t, exec (.addqPh 3 4 5) (start [] [] 0#32) = .next t)) ∧
      (destGpr (.mthi 4 1) ≠ some 4 ∧ (∃ t, exec (.mthi 4 1) (start [] [] 0#32) = .next t)) :=
  ⟨⟨by decide, exists_next (by decide)⟩, ⟨by decide, exists_next (by decide)⟩⟩

theorem witness_OnlyTheTargetAccumulatorChanges :
    (destAcc (.mulPh 3 4 5) ≠ some 1 ∧ (∃ t, exec (.mulPh 3 4 5) (start [] [] 0#32) = .next t)) ∧
      (destAcc (.madd 3 4 5) ≠ some 0 ∧ (∃ t, exec (.madd 3 4 5) (start [] [] 0#32) = .next t)) :=
  ⟨⟨by decide, exists_next (by decide)⟩, ⟨by decide, exists_next (by decide)⟩⟩

theorem witness_OnlyTheMappedDspControlBitsChange :
    (∃ t, exec (.addqPh 3 4 5) (start [(4, 0x7FFF7FFF#32), (5, 0x00010001#32)] [] 0#32) = .next t) :=
  exists_next (by decide)

theorem witness_OverflowFlagsAreSticky :
    (∀ rt mask, Instr.addqPh 3 4 5 ≠ .wrdsp rt mask) ∧ ((∃ t, exec (.addqPh 3 4 5) (start [] [] 0x00810000#32) = .next t)) ∧
      (0x00810000#32 : Word).getLsbD 16 = true ∧ (0x00810000#32 : Word).getLsbD 23 = true :=
  ⟨(fun _ _ h => by cases h), exists_next (by decide), by decide, by decide⟩

theorem witness_PcAdvancesByFourUnlessTheBranchIsTaken :
    ((∀ o, Instr.addqPh 3 4 5 ≠ .bposge32c o) ∧ (∃ t, exec (.addqPh 3 4 5) (start [] [] 0#32) = .next t)) ∧ Enabled (start [] [] 32#32) .rev3 ∧
      Enabled (start [] [] 31#32) .rev3 ∧ (∃ f, exec (.addqPh 3 4 5) { start [] [] 0#32 with status := 0#32 } = .fault f) :=
  ⟨⟨(fun _ h => by cases h), exists_next (by decide)⟩, enabled_start _ _ _, enabled_start _ _ _, ⟨_, rfl⟩⟩

theorem witness_PendingBitFollowsItsTable :
    ((∃ t, exec (.mult 0 4 5) (start [] [] 0#32) = .next t)) ∧ ((∃ t, exec (.mult 1 4 5) (start [] [] 0#32) = .next t)) ∧ ((∃ t, exec (.mfhi 3 0) (start [] [] 0#32) = .next t)) ∧ (∃ t, exec (.madd 0 4 5) (start [] [] 0#32) = .next t) :=
  ⟨exists_next (by decide), exists_next (by decide), exists_next (by decide), exists_next (by decide)⟩

theorem witness_SignedAddAndSubtractResults :
    Enabled (start [] [] 0#32) .rev1 :=
  enabled_start _ _ _

theorem witness_UnsignedAddAndSubtractResults :
    Enabled (start [] [] 0#32) .rev1 ∧ Enabled (start [] [] 0#32) .rev2 :=
  ⟨enabled_start _ _ _, enabled_start _ _ _⟩

theorem witness_HalvingAddAndSubtractResults :
    Enabled (start [] [] 0#32) .rev2 :=
  enabled_start _ _ _

theorem witness_CarryAddResults :
    Enabled (start [] [] 0#32) .rev1 :=
  enabled_start _ _ _

theorem witness_AddscThenAddwcAddsSixtyFourBits :
    Enabled (start [] [] 0#32) .rev1 ∧
      (2 : Reg) ≠ 0 ∧ (3 : Reg) ≠ 0 ∧ (2 : Reg) ≠ 5 ∧ (2 : Reg) ≠ 7 ∧ (2 : Reg) ≠ 3 :=
  ⟨enabled_start _ _ _, by decide⟩

theorem witness_ModsubRadduAndAbsoluteValueResults :
    Enabled (start [] [] 0#32) .rev1 ∧ Enabled (start [] [] 0#32) .rev2 :=
  ⟨enabled_start _ _ _, enabled_start _ _ _⟩

theorem witness_PrecisionTruncationAndExpansionResults :
    Enabled (start [] [] 0#32) .rev1 ∧ Enabled (start [] [] 0#32) .rev2 :=
  ⟨enabled_start _ _ _, enabled_start _ _ _⟩

theorem witness_PrecisionReduceAfterShiftResults :
    Enabled (start [] [] 0#32) .rev2 ∧
      (0 : Nat) < 32 ∧ 31 < 32 :=
  ⟨enabled_start _ _ _, by decide⟩

theorem witness_PrecisionReduceWithSaturationResults :
    Enabled (start [] [] 0#32) .rev1 :=
  enabled_start _ _ _

theorem witness_LeftShiftResults :
    Enabled (start [] [] 0#32) .rev1 ∧
      (7 : Nat) < 8 ∧ 15 < 16 ∧ 31 < 32 :=
  ⟨enabled_start _ _ _, by decide⟩

theorem witness_RightShiftResults :
    Enabled (start [] [] 0#32) .rev1 ∧ Enabled (start [] [] 0#32) .rev2 ∧
      (7 : Nat) < 8 ∧ 15 < 16 :=
  ⟨enabled_start _ _ _, enabled_start _ _ _, by decide⟩

theorem witness_RoundingRightShiftResults :
    Enabled (start [] [] 0#32) .rev1 ∧ Enabled (start [] [] 0#32) .rev2 ∧
      (7 : Nat) < 8 ∧ 15 < 16 ∧ 31 < 32 :=
  ⟨enabled_start _ _ _, enabled_start _ _ _, by decide⟩

/-- The boundary amounts of the rule, and lanes at both ends of it. -/
theorem witness_ArithmeticShiftIsFloorDivision :
    shiftRightArithmetic 0 0x8000#16 = 0x8000#16 ∧ shiftRightArithmetic 15 0x8000#16 = 0xFFFF#16 ∧
    shiftRightArithmetic 7 0x80#8 = 0xFF#8 ∧ (15 : Nat) < 16 ∧ (7 : Nat) < 8 := by decide

theorem witness_RoundingShiftIsPrintedAndClosedForm :
    rndShiftRightArithmetic 15 0x4000#16 = 0x0001#16 ∧ rndShiftRightArithmetic 15 0xC000#16 = 0x0000#16 ∧
    rndShiftRightArithmetic 7 0x7F#8 = 0x01#8 ∧ rndShiftRightArithmetic 31 0x80000000#32 = 0xFFFFFFFF#32 ∧
    (7 : Nat) < 8 ∧ (15 : Nat) < 16 ∧ (31 : Nat) < 32 := by decide

/-- The ends of the ranges of the product: 32767, 32768, -32768, -32769 and beyond. -/
theorem witness_HalfwordLeftShiftFlagIsTheDiscardTest :
    shift16Left 1 0x4000#16 = (0x8000#16, true) ∧ shift16Left 1 0xC000#16 = (0x8000#16, false) ∧
    sat16ShiftLeft 1 0x3FFF#16 = (0x7FFE#16, false) ∧ sat16ShiftLeft 1 0xBFFF#16 = (0x8000#16, true) ∧
    sat16ShiftLeft 15 0x0001#16 = (0x7FFF#16, true) ∧ (15 : Nat) < 16 := by decide

theorem witness_UnsignedByteByHalfwordProducts :
    Enabled (start [] [] 0#32) .rev1 :=
  enabled_start _ _ _

theorem witness_FractionalHalfwordProducts :
    Enabled (start [] [] 0#32) .rev1 ∧ Enabled (start [] [] 0#32) .rev2 :=
  ⟨enabled_start _ _ _, enabled_start _ _ _⟩

theorem witness_IntegerHalfwordAndQ31WordProducts :
    Enabled (start [] [] 0#32) .rev2 :=
  enabled_start _ _ _

theorem witness_GprMultipliesLeaveAc0FreeAndTheOthersAlone :
    (Instr.muleuSPhQbr 2 3 4) ∈ [Instr.mulPh 2 3 4, .muleuSPhQbr 2 3 4] ∧ ((∃ t, exec (.muleuSPhQbr 2 3 4) (start [] [] 0#32) = .next t)) ∧ (∃ t, exec (.mulPh 2 3 4) (start [] [] 0#32) = .next t) :=
  ⟨by simp, exists_next (by decide), exists_next (by decide)⟩

theorem witness_IntegerDotProductResults :
    Enabled (start [] [] 0#32) .rev1 ∧ Enabled (start [] [] 0#32) .rev2 :=
  ⟨enabled_start _ _ _, enabled_start _ _ _⟩

theorem witness_FractionalDotProductResults :
    Enabled (start [] [] 0#32) .rev1 ∧ Enabled (start [] [] 0#32) .rev2 :=
  ⟨enabled_start _ _ _, enabled_start _ _ _⟩

theorem witness_SaturatingAccumulateResults :
    Enabled (start [] [] 0#32) .rev1 ∧ Enabled (start [] [] 0#32) .rev2 :=
  ⟨enabled_start _ _ _, enabled_start _ _ _⟩

theorem witness_SingleProductAccumulateResults :
    Enabled (start [] [] 0#32) .rev1 :=
  enabled_start _ _ _

theorem witness_WordMultiplyAccumulateResults :
    Enabled (start [] [] 0#32) .rev1 :=
  enabled_start _ _ _

/-- Both INSV clauses at their boundary: pos + size = 32 and pos + size = 33. -/
theorem witness_BitReverseAndInsertResults :
    Enabled (start [] [] 0x00000810#32) .rev1 ∧ Enabled (start [] [] 0x00000811#32) .rev1 ∧
    ((0x00000810#32 : Word).extractLsb' 0 6).toNat + ((0x00000810#32 : Word).extractLsb' 7 6).toNat = 32 ∧
    ((0x00000811#32 : Word).extractLsb' 0 6).toNat + ((0x00000811#32 : Word).extractLsb' 7 6).toNat = 33 :=
  ⟨enabled_start _ _ _, enabled_start _ _ _, by decide, by decide⟩

theorem witness_ReplicateResults :
    Enabled (start [] [] 0#32) .rev1 ∧
      (255 : Nat) < 256 ∧ (-512 : Int) ≤ -512 ∧ (511 : Int) ≤ 511 :=
  ⟨enabled_start _ _ _, by decide⟩

theorem witness_UnsignedByteCompareResults :
    Enabled (start [] [] 0#32) .rev1 ∧ Enabled (start [] [] 0#32) .rev2 :=
  ⟨enabled_start _ _ _, enabled_start _ _ _⟩

theorem witness_SignedHalfwordCompareResults :
    Enabled (start [] [] 0#32) .rev1 :=
  enabled_start _ _ _

theorem witness_PickAndPackResults :
    Enabled (start [] [] 0#32) .rev1 :=
  enabled_start _ _ _

theorem witness_WordExtractionResults :
    Enabled (start [] [] 0#32) .rev1 ∧
      (31 : Nat) < 32 :=
  ⟨enabled_start _ _ _, by decide⟩

theorem witness_HalfwordExtractionResults :
    Enabled (start [] [] 0#32) .rev1 ∧
      (31 : Nat) < 32 :=
  ⟨enabled_start _ _ _, by decide⟩

/-- Both clauses at their boundary: pos = size and pos = size - 1. -/
theorem witness_BitfieldExtractionResults :
    Enabled (start [] [] 31#32) .rev1 ∧ Enabled (start [] [] 30#32) .rev1 ∧ (31 : Nat) < 32 ∧
    31 ≤ ((31#32 : Word).extractLsb' 0 6).toNat ∧ ((30#32 : Word).extractLsb' 0 6).toNat < 31 :=
  ⟨enabled_start _ _ _, enabled_start _ _ _, by decide, by decide, by decide⟩

theorem witness_ExtractionFailsExactlyIfPosIsBelowSize :
    ((31 : Nat) < 32 ∧ (∃ t, exec (.extp 2 1 31) (start [] [] 31#32) = .next t) ∧
      ∃ t, exec (.extpdp 2 1 31) (start [] [] 30#32) = .next t) ∧
    (7 = (((start [(3, 7#32)] [] 6#32).readGpr 3).extractLsb' 0 5).toNat ∧
      (∃ t, exec (.extpv 2 1 3) (start [(3, 7#32)] [] 6#32) = .next t) ∧
      ∃ t, exec (.extpdpv 2 1 3) (start [(3, 7#32)] [] 7#32) = .next t) :=
  ⟨⟨by decide, exists_next (by decide), exists_next (by decide)⟩,
    ⟨by decide, exists_next (by decide), exists_next (by decide)⟩⟩

theorem witness_AccumulatorShiftResults :
    Enabled (start [] [] 0#32) .rev1 ∧
      (-32 : Int) ≤ -32 ∧ (31 : Int) ≤ 31 :=
  ⟨enabled_start _ _ _, by decide⟩

/-- Both clauses at their boundary: pos = 32 and pos = 33. -/
theorem witness_MthlipResults :
    Enabled (start [] [] 32#32) .rev1 ∧ Enabled (start [] [] 33#32) .rev1 ∧
    ((32#32 : Word).extractLsb' 0 6).toNat = 32 ∧ ((33#32 : Word).extractLsb' 0 6).toNat = 33 :=
  ⟨enabled_start _ _ _, enabled_start _ _ _, by decide, by decide⟩

theorem witness_MoveFromAndToAccumulatorResults :
    Enabled (start [] [] 0#32) .rev1 ∧ Enabled { start [] [] 0#32 with hiloPending := true } .rev1 ∧
    ¬ ((0 : Acc) = 0 ∧ (start [] [] 0#32).hiloPending = true) ∧
    ({ start [] [] 0#32 with hiloPending := true } : State).hiloPending = true :=
  ⟨enabled_start _ _ _, enabled_start [] 0#32 .rev1, by decide, rfl⟩

theorem witness_DspControlAccessResults :
    Enabled (start [] [] 0#32) .rev1 ∧
      (0 : Nat) < 128 ∧ 127 < 128 :=
  ⟨enabled_start _ _ _, by decide⟩

theorem witness_SavedDspControlIsRestored :
    MachineInv (start [] [] 0x0FFF7FBF#32) ∧ MachineInv (start [(3, 0x0FFF7FBF#32)] [] 0#32) ∧ (2 : Reg) ≠ 0 ∧
    ∃ t t2, exec (.rddsp 2 0x3F) (start [] [] 0x0FFF7FBF#32) = .next t ∧
      (start [(3, 0x0FFF7FBF#32)] [] 0#32).readGpr 3 = t.readGpr 2 ∧
      exec (.wrdsp 3 0x3F) (start [(3, 0x0FFF7FBF#32)] [] 0#32) = .next t2 :=
  ⟨by unfold Claims.MachineInv; decide, by unfold Claims.MachineInv; decide, by decide, _, _, rfl, by decide, rfl⟩

end Sys2Proof.Tests
end

section
/-! SUPPORT. What a run of one instruction may change: the frame of an instruction, the rule of each state operation for it, and the
inversion of `exec` into the access check and the Operation behind it. -/

namespace Sys2Proof.Proofs

open Sys2Proof.Machine Sys2Proof.Claims

/-! ## Cells, masks and the access check -/

/-- A register write changes no other cell, and never the cell of register 0. -/
theorem gpr_get_writeGpr_of_ne (s : State) {r q : Reg} (v : Word) (h : q ≠ r ∨ q = 0) :
    (s.writeGpr r v).gpr.get q = s.gpr.get q := by
  unfold State.writeGpr
  split
  · rfl
  · next hr =>
    have hne : r.val ≠ q.val := by
      rcases h with h | rfl
      · exact fun e => h (Fin.ext e.symm)
      · exact fun e => hr (Fin.ext e)
    exact Vector.getElem_set_ne r.isLt q.isLt hne

/-- Two states with the same cell read the same register. -/
theorem readGpr_congr {s t : State} {q : Reg} (h : t.gpr.get q = s.gpr.get q) : t.readGpr q = s.readGpr q := by
  simp only [State.readGpr, h]

/-- A bit of a word with the bits of a mask taken out. -/
theorem getLsbD_and_not (x m : Word) (k : Nat) : (x &&& ~~~m).getLsbD k = (x.getLsbD k && !m.getLsbD k) := by
  by_cases hk : k < 32
  · simp only [BitVec.getLsbD_and, BitVec.getLsbD_not, hk, decide_true, Bool.true_and]
  · simp [BitVec.getLsbD_of_ge x k (Nat.le_of_not_lt hk)]

/-- Two words that agree outside the bits of a mask. -/
theorem and_not_eq_of_getLsbD {x y m : Word} (h : ∀ k, m.getLsbD k = false → x.getLsbD k = y.getLsbD k) :
    x &&& ~~~m = y &&& ~~~m := by
  refine BitVec.eq_of_getLsbD_eq fun k _ => ?_
  rw [getLsbD_and_not, getLsbD_and_not]
  cases hm : m.getLsbD k with
  | true => rw [Bool.not_true, Bool.and_false, Bool.and_false]
  | false => rw [h k hm]

/-- An access check that the state meets lets the Operation run. -/
theorem checkDSP_of_enabled {s : State} {rev : Revision} (h : Enabled s rev) : s.checkDSP rev = none := by
  obtain ⟨hdspp, hdsp2p, hmx⟩ := h
  refine State.checkDSP_eq_none.2 ⟨?_, hmx⟩
  cases rev with
  | rev1 => exact hdspp
  | rev2 => exact Bool.and_eq_true_iff.2 ⟨hdsp2p nofun, hdspp⟩
  | rev3 => exact Bool.and_eq_true_iff.2 ⟨hdspp, hdsp2p nofun⟩

theorem guarded_of_enabled {s : State} {rev : Revision} (h : Enabled s rev) (body : Out) : s.guarded rev body = body := by
  simp [State.guarded, checkDSP_of_enabled h]

/-- A fault of a guarded Operation that raises none itself is one of the two exceptions, at the address of the instruction. -/
theorem fault_of_guarded {s : State} {rev : Revision} {body : Out} {f : Fault} (hbody : ∀ g, body ≠ .fault g)
    (h : s.guarded rev body = .fault f) : f = .reservedInstruction s.pc ∨ f = .dspDisabled s.pc := by
  unfold State.guarded at h
  split at h
  · next k _ =>
    cases k with
    | reservedInstruction => exact .inl (Host.Outcome.fault.inj h).symm
    | dspDisabled => exact .inr (Host.Outcome.fault.inj h).symm
  · exact absurd h (hbody f)

/-! ## The frame of an instruction -/

/-- From `s` to `t` nothing changed that `i` has no right to write: `destGpr`, `destAcc` and `dspWritable` name what it may. Nothing
is said of pc and hilo_pending. -/
structure Frame (i : Instr) (s t : State) : Prop where
  gpr : ∀ q, destGpr i ≠ some q ∨ q = 0 → t.gpr.get q = s.gpr.get q
  hi : ∀ a, destAcc i ≠ some a → t.readHi a = s.readHi a
  lo : ∀ a, destAcc i ≠ some a → t.readLo a = s.readLo a
  dsp : ∀ k, (dspWritable i).getLsbD k = false → t.dspControl.getLsbD k = s.dspControl.getLsbD k
  cfg : t.cfg = s.cfg
  status : t.status = s.status
  llbit : t.llbit = s.llbit
  isaMode : t.isaMode = s.isaMode
  inBranchDelaySlot : t.inBranchDelaySlot = s.inBranchDelaySlot
  mem : t.mem = s.mem
  draws : s.draws ≤ t.draws

/-- The part of an instruction before pc moves, if it is neither WRDSP nor the branch: within its frame, pc kept, no ouflag bit
cleared (10_state.md R33, R40). -/
structure Update (i : Instr) (s u : State) : Prop extends Frame i s u where
  pc : u.pc = s.pc
  sticky : ∀ k, 16 ≤ k → k ≤ 23 → s.dspControl.getLsbD k = true → u.dspControl.getLsbD k = true

/-! ## One rule per state operation -/

section Rules

variable {i : Instr} {s u : State}

theorem Frame.refl : Frame i s s where
  gpr _ _ := rfl
  hi _ _ := rfl
  lo _ _ := rfl
  dsp _ _ := rfl
  cfg := rfl
  status := rfl
  llbit := rfl
  isaMode := rfl
  inBranchDelaySlot := rfl
  mem := rfl
  draws := Nat.le_refl _

theorem Frame.setPc (h : Frame i s u) (p : Word) : Frame i s { u with pc := p } := { h with }

theorem Frame.advance (h : Frame i s u) : Frame i s u.advance := h.setPc _

theorem Update.refl : Update i s s := { Frame.refl with pc := rfl, sticky := fun _ _ _ h => h }

theorem Update.writeGpr (h : Update i s u) {r : Reg} (hr : destGpr i = some r) (v : Word) :
    Update i s (u.writeGpr r v) where
  gpr q hq := by
    have hne : q ≠ r ∨ q = 0 := hq.imp_left fun hq e => hq (e ▸ hr)
    rw [gpr_get_writeGpr_of_ne u v hne, h.gpr q hq]
  hi a ha := by simpa [State.readHi] using h.hi a ha
  lo a ha := by simpa [State.readLo] using h.lo a ha
  dsp := by simpa using h.dsp
  cfg := by simpa using h.cfg
  status := by simpa using h.status
  llbit := by simpa using h.llbit
  isaMode := by simpa using h.isaMode
  inBranchDelaySlot := by simpa using h.inBranchDelaySlot
  mem := by simpa using h.mem
  draws := by simpa using h.draws
  pc := by simpa using h.pc
  sticky := by simpa using h.sticky

theorem Update.writeHi (h : Update i s u) {a : Acc} (ha : destAcc i = some a) (v : Word) : Update i s (u.writeHi a v) :=
  { h with
    hi := fun b hb => by
      have hne : b ≠ a := fun e => hb (e ▸ ha)
      rw [State.readHi_writeHi, if_neg hne, h.hi b hb] }

theorem Update.writeLo (h : Update i s u) {a : Acc} (ha : destAcc i = some a) (v : Word) : Update i s (u.writeLo a v) :=
  { h with
    lo := fun b hb => by
      have hne : b ≠ a := fun e => hb (e ▸ ha)
      rw [State.readLo_writeLo, if_neg hne, h.lo b hb] }

theorem Update.nextDraw (h : Update i s u) : Update i s u.nextDraw := { h with draws := Nat.le_succ_of_le h.draws }

theorem Update.setPending (h : Update i s u) (a : Acc) (b : Bool) : Update i s (u.setPending a b) := by
  unfold State.setPending
  split
  · exact { h with }
  · exact h

/-- A write of DSPControl that keeps the bits `i` may not write and every ouflag bit that is 1. -/
theorem Update.setDspControl (h : Update i s u) (d : Word)
    (hkeep : ∀ k, (dspWritable i).getLsbD k = false → d.getLsbD k = u.dspControl.getLsbD k)
    (hsticky : ∀ k, 16 ≤ k → k ≤ 23 → u.dspControl.getLsbD k = true → d.getLsbD k = true) :
    Update i s { u with dspControl := d } :=
  { h with
    dsp := fun k hk => (hkeep k hk).trans (h.dsp k hk)
    sticky := fun k h16 h23 hs => hsticky k h16 h23 (h.sticky k h16 h23 hs) }

/-- A field outside ouflag whose bits `i` may write. -/
theorem Update.setField (h : Update i s u) {m : Word} (hd : dspWritable i = m) (lo : Nat) {n : Nat} (v : BitVec n)
    (hm : ∀ k < n, m.getLsbD (lo + k) = true) (hlo : lo + n ≤ 16 ∨ 24 ≤ lo) :
    Update i s { u with dspControl := Machine.setField u.dspControl lo v } := by
  refine h.setDspControl _ (fun k hk => ?_) (fun k h16 h23 hs => ?_)
  · by_cases hlt : k < 32
    · rw [getLsbD_setField _ _ _ _ hlt, if_neg]
      rintro ⟨hge, hle⟩
      have hbit := hm (k - lo) (by omega)
      rw [Nat.add_sub_cancel' hge, ← hd, hk] at hbit
      exact Bool.false_ne_true hbit
    · simp [BitVec.getLsbD_of_ge _ k (Nat.le_of_not_lt hlt)]
  · rwa [getLsbD_setField _ _ _ _ (by omega), if_neg (by omega)]

/-- The sticky bit of `i`, raised or not. -/
theorem Update.flagIf (h : Update i s u) {bit : Nat} (hd : dspWritable i = 1#32 <<< bit) (b : Bool) :
    Update i s (u.flagIf bit b) := by
  have hrec : u.flagIf bit b = { u with dspControl := (u.flagIf bit b).dspControl } := by
    unfold State.flagIf; split <;> rfl
  rw [hrec]
  refine h.setDspControl _ (fun k hk => ?_) (fun k h16 h23 hs => ?_)
  · by_cases hlt : k < 32
    · have hne : k ≠ bit := by
        rintro rfl
        simp [hd, hlt] at hk
      simp [State.getLsbD_flagIf _ _ _ _ hlt, hne]
    · simp [BitVec.getLsbD_of_ge _ k (Nat.le_of_not_lt hlt)]
  · simp [State.getLsbD_flagIf _ _ _ k (by omega), hs]

theorem Update.writeAcc (h : Update i s u) {a : Acc} (ha : destAcc i = some a) (v : DWord) : Update i s (u.writeAcc a v) :=
  (h.writeHi ha _).writeLo ha _

theorem Update.writeGprFree (h : Update i s u) {r : Reg} (hr : destGpr i = some r) : Update i s (u.writeGprFree r) :=
  (h.writeGpr hr _).nextDraw

theorem Update.writeHiFree (h : Update i s u) {a : Acc} (ha : destAcc i = some a) : Update i s (u.writeHiFree a) :=
  (h.writeHi ha _).nextDraw

theorem Update.writeLoFree (h : Update i s u) {a : Acc} (ha : destAcc i = some a) : Update i s (u.writeLoFree a) :=
  (h.writeLo ha _).nextDraw

theorem Update.clobberAc0 (h : Update i s u) (ha : destAcc i = some 0) : Update i s u.clobberAc0 :=
  (h.writeHiFree ha).writeLoFree ha

theorem Update.setCcond (h : Update i s u) (hd : dspWritable i = 0x0F000000#32) (v : BitVec 4) : Update i s (u.setCcond v) :=
  h.setField hd 24 v (by decide) (by decide)

theorem Update.setCcondPh (h : Update i s u) (hd : dspWritable i = 0x0F000000#32) (v : BitVec 2) :
    Update i s (u.setCcondPh v) :=
  (h.setCcond hd _).nextDraw

end Rules

/-! ## The Operation behind the access check -/

/-- All that the Operation of an instruction can answer: an update within the frame and then pc + 4, or the two exceptions to that,
WRDSP and the branch, or the refusal of INSV with size 0. -/
inductive Operation : Instr → State → Out → Prop where
  | retire {i : Instr} {s u : State} (h : Update i s u) : Operation i s (.next u.advance)
  | wrdsp (rt : Reg) (mask : Nat) (s : State) :
      Operation (.wrdsp rt mask) s (.next (s.writeDsp mask (s.readGpr rt)).advance)
  | branch (offset : Int) (s : State) :
      Operation (.bposge32c offset) s
        (.next { s with pc := if 32 ≤ s.pos.toNat then s.pc + 4#32 + BitVec.ofInt 32 offset else s.pc + 4#32 })
  | refuse {rt rs : Reg} {s : State} (h : s.scount.toNat = 0) :
      Operation (.insv rt rs) s (.refused (.unpredictableOperation "INSV"))

/-- An extraction clears EFI and writes the field, with or without the new pos, or sets EFI and frees the register. -/
theorem extract_eq_guarded {i : Instr} {rt : Reg} {dec : Bool} (s : State) (rev : Revision) (ac : Acc) (size : Nat)
    (hr : destGpr i = some rt) (hd : dspWritable i = if dec then 0x0000403F#32 else 0x00004000#32) :
    ∃ body, s.extract rev rt ac size dec = s.guarded rev body ∧ Operation i s body := by
  refine ⟨_, rfl, .retire ?_⟩
  have hefi (v : BitVec 1) : Update i s (s.setEfi v) :=
    Update.refl.setField hd 14 v (by cases dec <;> decide) (by decide)
  split
  · cases dec with
    | false => exact (hefi _).writeGpr hr _
    | true => exact ((hefi _).setField hd 0 _ (by decide) (by decide)).writeGpr hr _
  · exact (hefi _).writeGprFree hr

theorem execInsv_eq_guarded (rt rs : Reg) (s : State) :
    ∃ body, execInsv rt rs s = s.guarded .rev1 body ∧ Operation (.insv rt rs) s body := by
  refine ⟨_, rfl, ?_⟩
  split
  · next hsize => exact .refuse hsize
  · split
    · exact .retire (Update.refl.writeGprFree rfl)
    · exact .retire (Update.refl.writeGpr rfl _)

theorem execMthi_eq_guarded (rs : Reg) (ac : Acc) (s : State) :
    ∃ body, execMthi rs ac s = s.guarded .rev1 body ∧ Operation (.mthi rs ac) s body := by
  refine ⟨_, rfl, .retire ?_⟩
  have hhi : Update (.mthi rs ac) s (s.writeHi ac (s.readGpr rs)) := Update.refl.writeHi rfl _
  split
  · next hpending => exact hhi.writeLoFree (congrArg some hpending.1)
  · exact hhi

theorem execMtlo_eq_guarded (rs : Reg) (ac : Acc) (s : State) :
    ∃ body, execMtlo rs ac s = s.guarded .rev1 body ∧ Operation (.mtlo rs ac) s body := by
  refine ⟨_, rfl, .retire ?_⟩
  have hlo : Update (.mtlo rs ac) s (s.writeLo ac (s.readGpr rs)) := Update.refl.writeLo rfl _
  split
  · next hpending => exact hlo.writeHiFree (congrArg some hpending.1)
  · exact hlo

theorem execMthlip_eq_guarded (rs : Reg) (ac : Acc) (s : State) :
    ∃ body, execMthlip rs ac s = s.guarded .rev1 body ∧ Operation (.mthlip rs ac) s body := by
  have hpos : dspWritable (.mthlip rs ac) = 0x0000003F#32 := rfl
  refine ⟨_, rfl, .retire ?_⟩
  split
  · have hacc : Update (.mthlip rs ac) s ((s.writeHiFree ac).writeLoFree ac) := (Update.refl.writeHiFree rfl).writeLoFree rfl
    exact (hacc.setField hpos 0 _ (by decide) (by decide)).nextDraw
  · exact ((Update.refl.writeHi rfl _).writeLo rfl _).setField hpos 0 _ (by decide) (by decide)

/-- Every instruction is its Operation behind the check at the level of its row. The cases are grouped by the updates the meaning
makes. -/
theorem exec_eq_guarded (i : Instr) (s : State) :
    ∃ body, exec i s = s.guarded (revisionOf i) body ∧ Operation i s body := by
  cases i with
  | addqPh | addqSPh | addqSW | adduQb | adduSQb | adduPh | adduSPh | subqPh | subqSPh | subqSW | subuQb | subuSQb | subuPh
  | subuSPh | addwc | absqSQb | absqSPh | absqSW | precrqRsPhW | precrquSQbPh | shllvQb | shllvPh | shllvSPh | shllvSW | shllSW
  | shllPh | shllSPh | shllQb | extrvW | extrvRW | extrvRsW | extrvSH | extrW | extrRW | extrRsW | extrSH =>
    exact ⟨_, rfl, .retire ((Update.refl.flagIf rfl _).writeGpr rfl _)⟩
  | adduhQb | adduhRQb | addqhPh | addqhRPh | addqhW | addqhRW | subuhQb | subuhRQb | subqhPh | subqhRPh | subqhW | subqhRW
  | modsub | radduWQb | precrQbPh | precrqQbPh | precrqPhW | precrSraPhW | precrSraRPhW | preceqWPhl | preceqWPhr | precequPhQbl
  | precequPhQbr | precequPhQbla | precequPhQbra | preceuPhQbl | preceuPhQbr | preceuPhQbla | preceuPhQbra | shrlvQb | shrlvPh
  | shravQb | shravRQb | shravPh | shravRPh | shravRW | shraRW | shraPh | shraRPh | shrlQb | shraQb | shraRQb | shrlPh | replPh
  | bitrev | replvQb | replvPh | replQb | cmpguEqQb | cmpguLtQb | cmpguLeQb | pickQb | pickPh | packrlPh | rddsp =>
    exact ⟨_, rfl, .retire (Update.refl.writeGpr rfl _)⟩
  | muleuSPhQbl | muleuSPhQbr | mulqRsPh | muleqSWPhl | muleqSWPhr | mulPh | mulSPh | mulqSPh | mulqSW | mulqRsW =>
    exact ⟨_, rfl, .retire (((Update.refl.flagIf rfl _).writeGpr rfl _).clobberAc0 rfl)⟩
  | dpaWPh | dpaxWPh | dpauHQbl | dpauHQbr | dpsWPh | dpsxWPh | dpsuHQbl | dpsuHQbr | madd | maddu | msub | msubu | mulsaWPh
  | shilo | shilov =>
    exact ⟨_, rfl, .retire (Update.refl.writeAcc rfl _)⟩
  | dpaqSWPh | dpaqSaLW | dpaqxSWPh | dpaqxSaWPh | dpsqSWPh | dpsqSaLW | dpsqxSWPh | dpsqxSaWPh | mulsaqSWPh | maqSWPhr
  | maqSWPhl | maqSaWPhr | maqSaWPhl =>
    exact ⟨_, rfl, .retire ((Update.refl.flagIf rfl _).writeAcc rfl _)⟩
  | mult ac | multu ac => exact ⟨_, rfl, .retire ((Update.refl.writeAcc rfl _).setPending ac _)⟩
  | mfhi _ ac | mflo _ ac => exact ⟨_, rfl, .retire ((Update.refl.writeGpr rfl _).setPending ac _)⟩
  | cmpgduEqQb | cmpgduLtQb | cmpgduLeQb => exact ⟨_, rfl, .retire ((Update.refl.setCcond rfl _).writeGpr rfl _)⟩
  | cmpuEqQb | cmpuLtQb | cmpuLeQb => exact ⟨_, rfl, .retire (Update.refl.setCcond rfl _)⟩
  | cmpEqPh | cmpLtPh | cmpLePh => exact ⟨_, rfl, .retire (Update.refl.setCcondPh rfl _)⟩
  | extpv _ ac | extpdpv _ ac | extp _ ac | extpdp _ ac => exact extract_eq_guarded s .rev1 ac _ rfl rfl
  | addsc =>
    exact ⟨_, rfl, .retire ((Update.refl.setField (m := 0x00002000#32) rfl 13 _ (by decide) (by decide)).writeGpr rfl _)⟩
  | insv rt rs => exact execInsv_eq_guarded rt rs s
  | mthi rs ac => exact execMthi_eq_guarded rs ac s
  | mtlo rs ac => exact execMtlo_eq_guarded rs ac s
  | mthlip rs ac => exact execMthlip_eq_guarded rs ac s
  | wrdsp rt mask => exact ⟨_, rfl, .wrdsp rt mask s⟩
  | bposge32c offset => exact ⟨_, rfl, .branch offset s⟩

/-- The inversion of `exec`: what a next state is. -/
theorem exec_eq_next_cases {i : Instr} {s t : State} (h : exec i s = .next t) :
    (∃ u, Update i s u ∧ t = u.advance) ∨
    (∃ rt mask, i = .wrdsp rt mask ∧ t = (s.writeDsp mask (s.readGpr rt)).advance) ∨
    (∃ offset p, i = .bposge32c offset ∧ t = { s with pc := p }) := by
  obtain ⟨body, hexec, hop⟩ := exec_eq_guarded i s
  obtain ⟨-, hbody⟩ := State.guarded_eq_next.1 (hexec ▸ h)
  cases hop with
  | @retire i s u hu => exact .inl ⟨u, hu, (Host.Outcome.next.inj hbody).symm⟩
  | wrdsp rt mask s => exact .inr (.inl ⟨rt, mask, rfl, (Host.Outcome.next.inj hbody).symm⟩)
  | branch offset s => exact .inr (.inr ⟨offset, _, rfl, (Host.Outcome.next.inj hbody).symm⟩)
  | refuse hsize => cases hbody

/-- No mask of WRDSP selects a reserved bit (47_acc_dspcontrol.md R384; D7). -/
theorem dspMask_and_writable (mask : Nat) : dspMask mask &&& 0x0FFF7FBF#32 = dspMask mask := by
  unfold dspMask
  generalize mask.testBit 0 = b0, mask.testBit 1 = b1, mask.testBit 2 = b2, mask.testBit 3 = b3, mask.testBit 4 = b4,
    mask.testBit 5 = b5
  revert b0 b1 b2 b3 b4 b5
  decide

/-- A bit of DSPControl after WRDSP: selected bits are those of the operand. -/
theorem getLsbD_writeDsp (s : State) (mask : Nat) (v : Word) (k : Nat) :
    (s.writeDsp mask v).dspControl.getLsbD k =
      if (dspMask mask).getLsbD k then v.getLsbD k else s.dspControl.getLsbD k := by
  unfold State.writeDsp
  rw [BitVec.getLsbD_or, getLsbD_and_not, BitVec.getLsbD_and]
  cases (dspMask mask).getLsbD k <;> simp

theorem frame_writeDsp (rt : Reg) (mask : Nat) (s : State) (v : Word) : Frame (.wrdsp rt mask) s (s.writeDsp mask v) :=
  { Frame.refl with
    dsp := fun k hk => by
      have hout : (0x0FFF7FBF#32).getLsbD k = false := hk
      have hsel : (dspMask mask).getLsbD k = false := by
        rw [← dspMask_and_writable, BitVec.getLsbD_and, hout, Bool.and_false]
      rw [getLsbD_writeDsp, hsel, if_neg Bool.false_ne_true] }

/-- Every instruction stays within its frame. -/
theorem exec_frame {i : Instr} {s t : State} (h : exec i s = .next t) : Frame i s t := by
  obtain ⟨u, hu, rfl⟩ | ⟨rt, mask, rfl, rfl⟩ | ⟨offset, p, rfl, rfl⟩ := exec_eq_next_cases h
  · exact hu.toFrame.advance
  · exact (frame_writeDsp rt mask s _).advance
  · exact Frame.refl.setPc p

end Sys2Proof.Proofs
end

section
/-! SUPPORT. The statements about the state as a whole: what each instruction leaves unchanged, the invariant of the machine, pc,
and saving and restoring DSPControl (10_state.md). -/

namespace Sys2Proof.Proofs

open Sys2Proof.Machine Sys2Proof.Claims

/-- No instruction may write a reserved bit (10_state.md R38, D7). -/
theorem dspWritable_and_reserved (i : Instr) : dspWritable i &&& 0xF0008040#32 = 0#32 := by
  have hflag : ∀ ac : Acc, (1#32 <<< (16 + ac.val)) &&& 0xF0008040#32 = 0#32 := by decide
  cases i with
  | dpaqSWPh ac | dpaqSaLW ac | dpaqxSWPh ac | dpaqxSaWPh ac | dpsqSWPh ac | dpsqSaLW ac | dpsqxSWPh ac | dpsqxSaWPh ac
  | mulsaqSWPh ac | maqSWPhr ac | maqSWPhl ac | maqSaWPhr ac | maqSaWPhl ac => exact hflag ac
  | _ => simp [dspWritable]

/-- The reserved bits stay as they are. -/
theorem Frame.reserved {i : Instr} {s t : State} (h : Frame i s t) :
    t.dspControl &&& 0xF0008040#32 = s.dspControl &&& 0xF0008040#32 := by
  refine BitVec.eq_of_getLsbD_eq fun k hk => ?_
  have hdisj := congrArg (·.getLsbD k) (dspWritable_and_reserved i)
  cases hres : (0xF0008040#32).getLsbD k with
  | false => simp only [BitVec.getLsbD_and, hres, Bool.and_false]
  | true =>
    have hkeep : (dspWritable i).getLsbD k = false := by simpa [hres] using hdisj
    simp only [BitVec.getLsbD_and, h.dsp k hkeep]

theorem Frame.machineInv {i : Instr} {s t : State} (h : Frame i s t) (hs : MachineInv s) : MachineInv t := by
  obtain ⟨hmem, hzero, hres⟩ := hs
  exact ⟨h.mem ▸ hmem, (h.gpr 0 (.inr rfl)).trans hzero, h.reserved.trans hres⟩

/-- The inversion of `step`: a next state is that of the decoded instruction. -/
theorem exec_of_step_eq_next {s t : State} (h : step s = .next t) : ∃ i, exec i s = .next t := by
  unfold step at h
  split at h
  · cases h
  · split at h
    · cases h
    · next i _ => exact ⟨i, h⟩

/-- The branch, where it may run: the printed form of 48_load_branch.md R396. -/
theorem exec_bposge32c_of_enabled {s : State} {offset : Int} (h : Enabled s .rev3) :
    exec (.bposge32c offset) s =
      .next { s with pc := if 32 ≤ s.pos.toNat then s.pc + 4#32 + BitVec.ofInt 32 offset else s.pc + 4#32 } :=
  guarded_of_enabled h _

/-- The mask 0x3F selects every bit that is not reserved. -/
theorem dspMask_all : dspMask 0x3F = ~~~0xF0008040#32 := by decide

/-- A word without reserved bits is kept by the mask of the others. -/
theorem and_not_eq_self {d m : Word} (h : d &&& m = 0#32) : d &&& ~~~m = d := by
  refine BitVec.eq_of_getLsbD_eq fun k hk => ?_
  have hdm : (d.getLsbD k && m.getLsbD k) = false := by rw [← BitVec.getLsbD_and, h, BitVec.getLsbD_zero]
  rw [getLsbD_and_not]
  cases hm : m.getLsbD k with
  | false => rw [Bool.not_false, Bool.and_true]
  | true => rw [Bool.not_true, Bool.and_false, ← hdm, hm, Bool.and_true]

end Sys2Proof.Proofs

open Sys2Proof Sys2Proof.Machine Sys2Proof.Claims Sys2Proof.Proofs

/-- Settles O3: the decoded instruction stays within its frame, and no frame lets memory, the cell of
register 0 or a reserved bit change. -/
theorem stepKeepsTheMachineInvariant : Obligations.StepKeepsTheMachineInvariant := by
  intro s t hs hstep
  obtain ⟨i, hexec⟩ := exec_of_step_eq_next hstep
  exact (exec_frame hexec).machineInv hs

/-- Settles O16: the fields outside every frame. -/
theorem environmentNeverChanges : Obligations.EnvironmentNeverChanges := by
  intro i s t hexec
  have hframe := exec_frame hexec
  exact ⟨hframe.cfg, hframe.status, hframe.llbit, hframe.isaMode, hframe.inBranchDelaySlot,
    fun a => congrArg (Memory.read · a) hframe.mem, hframe.draws⟩

/-- Settles O17: the register part of the frame. -/
theorem onlyTheDestinationRegisterChanges : Obligations.OnlyTheDestinationRegisterChanges :=
  fun _ _ _ hexec q hq => readGpr_congr ((exec_frame hexec).gpr q (.inl hq))

/-- Settles O18: the accumulator part of the frame. -/
theorem onlyTheTargetAccumulatorChanges : Obligations.OnlyTheTargetAccumulatorChanges :=
  fun _ _ _ hexec a ha => ⟨(exec_frame hexec).hi a ha, (exec_frame hexec).lo a ha⟩

/-- Settles O19: the DSPControl part of the frame, bit by bit. -/
theorem onlyTheMappedDspControlBitsChange : Obligations.OnlyTheMappedDspControlBitsChange :=
  fun _ _ _ hexec => and_not_eq_of_getLsbD (exec_frame hexec).dsp

/-- Settles O20: an update clears no ouflag bit, and the branch does not touch DSPControl. -/
theorem overflowFlagsAreSticky : Obligations.OverflowFlagsAreSticky := by
  intro i s t hwrdsp hexec k h16 h23 hbit
  obtain ⟨u, hu, rfl⟩ | ⟨rt, mask, rfl, -⟩ | ⟨offset, p, -, rfl⟩ := exec_eq_next_cases hexec
  · exact hu.sticky k h16 h23 hbit
  · exact absurd rfl (hwrdsp rt mask)
  · exact hbit

/-- Settles O21: an update and WRDSP keep pc until the instruction retires; only the access check raises a fault. -/
theorem pcAdvancesByFourUnlessTheBranchIsTaken : Obligations.PcAdvancesByFourUnlessTheBranchIsTaken := by
  refine ⟨fun i s t hbranch hexec => ?_, fun s offset henabled => ?_, fun i s f hexec => ?_⟩
  · obtain ⟨u, hu, rfl⟩ | ⟨rt, mask, -, rfl⟩ | ⟨offset, p, rfl, -⟩ := exec_eq_next_cases hexec
    · rw [State.pc_advance, hu.pc]
    · rw [State.pc_advance, State.pc_writeDsp]
    · exact absurd rfl (hbranch offset)
  · rw [exec_bposge32c_of_enabled henabled]
    by_cases hpos : 32 ≤ s.pos.toNat
    · rw [if_pos hpos, if_pos (show 32 ≤ (s.dspControl.extractLsb' 0 6).toNat from hpos)]
    · rw [if_neg hpos, if_neg (show ¬ 32 ≤ (s.dspControl.extractLsb' 0 6).toNat from hpos), BitVec.add_zero]
  · obtain ⟨body, hguard, hop⟩ := exec_eq_guarded i s
    refine fault_of_guarded (fun g hg => ?_) (hguard ▸ hexec)
    subst hg
    cases hop

/-- Settles O60: the mask 0x3F selects the complement of the reserved bits, which are 0 in both states. -/
theorem savedDspControlIsRestored : Obligations.SavedDspControlIsRestored := by
  intro s t s2 t2 r q ⟨_, _, hres⟩ ⟨_, _, hres2⟩ hr hsave hheld hrestore
  obtain ⟨-, hsave⟩ := State.guarded_eq_next.1 hsave
  obtain ⟨-, hrestore⟩ := State.guarded_eq_next.1 hrestore
  have hsaved : t.readGpr r = s.dspControl := by
    rw [← State.retire_eq_next.1 hsave]
    show (s.writeGpr r (s.readDsp 0x3F)).readGpr r = s.dspControl
    rw [State.readGpr_writeGpr, if_pos ⟨rfl, hr⟩, State.readDsp, dspMask_all, and_not_eq_self hres]
  rw [← State.retire_eq_next.1 hrestore, hheld, hsaved]
  show (s2.dspControl &&& ~~~dspMask 0x3F) ||| (s.dspControl &&& dspMask 0x3F) = s.dspControl
  rw [dspMask_all, and_not_eq_self hres, BitVec.not_not, hres2, BitVec.zero_or]

/-- Settles O1: the fields of `State.reset`; an empty memory lists no byte. -/
theorem resetStateHoldsTheStatedValues : Obligations.ResetStateHoldsTheStatedValues :=
  ⟨rfl, rfl, State.readGpr_zero _, rfl, rfl, rfl, fun _ => rfl⟩

/-- Settles O2: memory lists nothing and the two words are 0. -/
theorem resetStateMeetsTheInvariant : Obligations.ResetStateMeetsTheInvariant := by
  have hmem : Memory.wf State.reset.mem := ⟨List.Pairwise.nil, fun _ hc => absurd hc List.not_mem_nil⟩
  exact ⟨hmem, rfl, rfl⟩

/-- Settles O11: the read-after-write rule of the registers, with register 0 apart. -/
theorem registerZeroReadsZeroAndOthersHoldWhatIsWritten : Obligations.RegisterZeroReadsZeroAndOthersHoldWhatIsWritten := by
  refine fun s r q v => ⟨s.readGpr_zero, s.writeGpr_zero v, fun hr => ?_, fun hq => ?_⟩
  · rw [State.readGpr_writeGpr, if_pos ⟨rfl, hr⟩]
  · rw [State.readGpr_writeGpr, if_neg fun h => hq h.1]

/-- Settles O12: the read-after-write rules of HI, LO and the whole accumulator. -/
theorem accumulatorIsHiThenLo : Obligations.AccumulatorIsHiThenLo := by
  refine fun s a b v => ⟨rfl, ?_, ?_, fun hb => ?_⟩
  · rw [State.writeAcc, State.readHi_writeLo, State.readHi_writeHi, if_pos rfl]
  · rw [State.writeAcc, State.readLo_writeLo, if_pos rfl]
  · rw [State.acc_writeAcc, if_neg hb]

end

section
/-! SUPPORT. The memory operations over several bytes, the bytes of a unit in either byte order, the layout of an instruction word and
the step behind the fetch (20_memory.md). -/

namespace Sys2Proof.Proofs

open Sys2Proof.Machine

/-! ## Bytes at rising addresses -/

/-- The address k + 1 bytes on is k bytes after the next one; addresses wrap (D13). -/
theorem add_one_add_ofNat (a : Word) (k : Nat) : a + 1#32 + BitVec.ofNat 32 k = a + BitVec.ofNat 32 (k + 1) := by
  rw [BitVec.add_assoc, BitVec.ofNat_add, BitVec.add_comm (BitVec.ofNat 32 k)]

/-- Fewer than 2^32 bytes after `a`, no address comes back to `a`. -/
theorem toNat_ne_toNat_add_ofNat (a : Word) {k : Nat} (h0 : 0 < k) (hk : k < 2 ^ 32) :
    a.toNat ≠ (a + BitVec.ofNat 32 k).toNat := by
  have ha : a.toNat < 2 ^ 32 := a.isLt
  rw [BitVec.toNat_add, BitVec.toNat_ofNat]
  omega

/-- The frame of a write of several bytes. -/
theorem read_writeBytes_of_ne {bs : List Byte} {m : Memory} {a : Word} {x : Nat} (hm : Memory.wf m)
    (hx : ∀ k, k < bs.length → x ≠ (a + BitVec.ofNat 32 k).toNat) :
    Memory.read (Memory.writeBytes m a bs) x = Memory.read m x := by
  induction bs generalizing m a with
  | nil => rfl
  | cons b bs ih =>
    have hne : x ≠ a.toNat := by simpa using hx 0 (Nat.succ_pos _)
    have hrest : ∀ k, k < bs.length → x ≠ (a + 1#32 + BitVec.ofNat 32 k).toNat := fun k hk =>
      add_one_add_ofNat a k ▸ hx (k + 1) (Nat.succ_lt_succ hk)
    rw [Memory.writeBytes, ih (Memory.wf_write m _ b a.isLt hm) hrest, Memory.read_write m _ b x hm, if_neg hne]

/-- The first `n` bytes read where a list of bytes was written. At most 2^32 of them: a longer list would wrap onto its own start. -/
theorem readBytes_writeBytes {bs : List Byte} {m : Memory} {a : Word} {n : Nat} (hm : Memory.wf m) (hn : n ≤ bs.length)
    (hlen : bs.length ≤ 2 ^ 32) : Memory.readBytes (Memory.writeBytes m a bs) a n = some (bs.take n) := by
  induction bs generalizing m a n with
  | nil =>
    obtain rfl : n = 0 := Nat.le_zero.1 hn
    rfl
  | cons b bs ih =>
    rw [List.length_cons] at hn hlen
    have hm' : Memory.wf (Memory.write m a.toNat b) := Memory.wf_write m _ b a.isLt hm
    have hfirst : Memory.read (Memory.writeBytes m a (b :: bs)) a.toNat = some b := by
      have hne : ∀ k, k < bs.length → a.toNat ≠ (a + 1#32 + BitVec.ofNat 32 k).toNat := fun k hk =>
        add_one_add_ofNat a k ▸ toNat_ne_toNat_add_ofNat a (Nat.succ_pos k) (by omega)
      rw [Memory.writeBytes, read_writeBytes_of_ne hm' hne, Memory.read_write m _ b _ hm, if_pos rfl]
    cases n with
    | zero => rfl
    | succ n =>
      have hrest : Memory.readBytes (Memory.writeBytes m a (b :: bs)) (a + 1#32) n = some (bs.take n) :=
        ih hm' (Nat.le_of_succ_le_succ hn) (Nat.le_of_succ_le hlen)
      simp only [Memory.readBytes, hfirst, hrest, List.take_succ_cons]

/-! ## The bytes of a unit -/

@[simp] theorem length_unitBytes (be : Bool) (n v : Nat) : (unitBytes be n v).length = n := by
  cases be <;> simp [unitBytes]

/-- Big-endian is the other order of the same bytes. -/
theorem unitBytes_true (n v : Nat) : unitBytes true n v = (unitBytes false n v).reverse := rfl

theorem unitValue_true (bs : List Byte) : unitValue true bs = unitValue false bs.reverse := rfl

/-- A little-endian unit is its low byte and then the unit of the rest. -/
theorem unitBytes_false_succ (n v : Nat) :
    unitBytes false (n + 1) v = BitVec.ofNat 8 v :: unitBytes false n (v / 256) := by
  simp [unitBytes, List.range_succ_eq_map, Nat.pow_succ', Nat.div_div_eq_div_mul]

theorem unitValue_false_cons (b : Byte) (bs : List Byte) :
    unitValue false (b :: bs) = b.toNat + 256 * unitValue false bs := rfl

/-- The bytes of a unit denote its value, cut to the unit (20_memory.md R61). -/
theorem unitValue_unitBytes (be : Bool) (n v : Nat) : unitValue be (unitBytes be n v) = v % 256 ^ n := by
  have hlittle : unitValue false (unitBytes false n v) = v % 256 ^ n := by
    induction n generalizing v with
    | zero => rw [Nat.pow_zero, Nat.mod_one]; rfl
    | succ n ih =>
      rw [unitBytes_false_succ, unitValue_false_cons, ih, BitVec.toNat_ofNat, Nat.pow_succ' (m := 256), Nat.mod_mul]
  cases be with
  | false => exact hlittle
  | true => rw [unitBytes_true, unitValue_true, List.reverse_reverse, hlittle]

/-- A little-endian unit begins with its low part. -/
theorem unitBytes_false_add (n k v : Nat) :
    unitBytes false (n + k) v = unitBytes false n v ++ unitBytes false k (v / 256 ^ n) := by
  simp [unitBytes, List.range_add, Nat.pow_add, Nat.div_div_eq_div_mul]

/-- A big-endian unit begins with its high part. -/
theorem unitBytes_true_add (n k v : Nat) :
    unitBytes true (n + k) v = unitBytes true n (v / 256 ^ k) ++ unitBytes true k v := by
  rw [Nat.add_comm, unitBytes_true, unitBytes_false_add, List.reverse_append]
  rfl

/-- The first `n` bytes of a unit are those of the smaller unit at its address (20_memory.md R63). -/
theorem take_unitBytes (be : Bool) (n k v : Nat) :
    (unitBytes be (n + k) v).take n = unitBytes be n (if be then v / 256 ^ k else v) := by
  cases be with
  | false => rw [unitBytes_false_add, List.take_left' (length_unitBytes ..)]; rfl
  | true => rw [unitBytes_true_add, List.take_left' (length_unitBytes ..)]; rfl

/-! ## MemRead after MemWrite -/

/-- MemRead of the first `n` of the `n + k` bytes MemWrite wrote. -/
theorem memRead_memWrite {s : State} (a : Word) {n k : Nat} (v : Nat) (hs : Memory.wf s.mem) (hlen : n + k ≤ 2 ^ 32) :
    (s.memWrite a (n + k) v).memRead a n =
      some ((if s.cfg.bigEndianMem then v / 256 ^ k else v) % 256 ^ n) := by
  have hbytes : Memory.readBytes (s.memWrite a (n + k) v).mem a n =
      some ((unitBytes s.cfg.bigEndianMem (n + k) v).take n) :=
    readBytes_writeBytes hs (by simp) (by simpa using hlen)
  rw [State.memRead, hbytes, State.cfg_memWrite, Option.map_some, take_unitBytes, unitValue_unitBytes]

/-! ## The instruction word in memory -/

@[simp] theorem length_wordToBytes (c : Config) (w : Word) : (wordToBytes c w).length = 4 := by
  unfold wordToBytes
  split
  · rw [List.length_append, length_unitBytes, length_unitBytes]
  · rw [length_unitBytes]

/-- Bits 31:16 and bits 15:0 make the word. -/
theorem fld_high_mul_add_fld_low (w : Word) : fld w 16 16 * 65536 + fld w 0 16 = w.toNat := by
  have hw : w.toNat < 2 ^ 32 := w.isLt
  unfold fld
  omega

/-- The value of a halfword unit that holds a 16-bit field. -/
theorem unitValue_unitBytes_fld (be : Bool) (w : Word) (lo : Nat) :
    unitValue be (unitBytes be 2 (fld w lo 16)) = fld w lo 16 := by
  rw [unitValue_unitBytes]
  exact Nat.mod_mod _ _

/-- Both layouts of an instruction word are read back as they are laid out (92_eei_decisions.md D18). -/
theorem bytesToWord_of_wordToBytes {c : Config} {w : Word} {b0 b1 b2 b3 : Byte} (h : wordToBytes c w = [b0, b1, b2, b3]) :
    bytesToWord c b0 b1 b2 b3 = w := by
  cases hlayout : c.fetchLayout with
  | halfwords =>
    simp only [wordToBytes, bytesToWord, hlayout] at h ⊢
    obtain ⟨hhigh, hlow⟩ : unitBytes c.bigEndianMem 2 (fld w 16 16) = [b0, b1] ∧
        unitBytes c.bigEndianMem 2 (fld w 0 16) = [b2, b3] := List.append_inj h (by simp)
    rw [← hhigh, ← hlow, unitValue_unitBytes_fld, unitValue_unitBytes_fld, fld_high_mul_add_fld_low, BitVec.ofNat_toNat,
      BitVec.setWidth_eq]
  | word =>
    simp only [wordToBytes, bytesToWord, hlayout] at h ⊢
    rw [← h, unitValue_unitBytes, Nat.mod_eq_of_lt (b := 256 ^ 4) w.isLt, BitVec.ofNat_toNat, BitVec.setWidth_eq]

theorem fetchWord_of_readBytes {s : State} {b0 b1 b2 b3 : Byte}
    (h : Memory.readBytes s.mem s.pc 4 = some [b0, b1, b2, b3]) : s.fetchWord = some (bytesToWord s.cfg b0 b1 b2 b3) := by
  simp only [State.fetchWord, h]

/-! ## The step behind the fetch -/

theorem step_of_decode_eq_some {s : State} {w : Word} {i : Instr} (hw : s.fetchWord = some w) (hi : decode w = some i) :
    step s = exec i s := by
  simp only [step, hw, hi]

theorem step_of_decode_eq_none {s : State} {w : Word} (hw : s.fetchWord = some w) (hi : decode w = none) :
    step s = .refused (.notDspModule w) := by
  simp only [step, hw, hi]

theorem step_of_fetchWord_eq_none {s : State} (h : s.fetchWord = none) : step s = .fault (.fetchUnwritten s.pc) := by
  simp only [step, h]

end Sys2Proof.Proofs

open Sys2Proof Sys2Proof.Machine Sys2Proof.Claims Sys2Proof.Proofs

/-- Settles O8: the four bytes placed are the four bytes fetched, and each layout is read back as it is laid out. -/
theorem placedWordIsTheWordFetched : Obligations.PlacedWordIsTheWordFetched := by
  intro s w hs
  have hlen : (wordToBytes s.cfg w).length = 4 := length_wordToBytes s.cfg w
  have hread : Memory.readBytes (s.placeWord w).mem (s.placeWord w).pc 4 = some ((wordToBytes s.cfg w).take 4) :=
    readBytes_writeBytes hs hlen.ge (by omega)
  rw [List.take_of_length_le hlen.le] at hread
  obtain ⟨b0, b1, b2, b3, hbytes⟩ := List.length_eq_four.1 hlen
  rw [fetchWord_of_readBytes (hread.trans (congrArg some hbytes)), State.cfg_placeWord, bytesToWord_of_wordToBytes hbytes]

/-- Settles O9: a read as wide as the write, and the halfword at the address of a written word. -/
theorem memReadAfterMemWriteGivesTheValue : Obligations.MemReadAfterMemWriteGivesTheValue := by
  intro s a n v hs hn
  refine ⟨?_, ?_⟩
  · have hread := memRead_memWrite a (n := n) (k := 0) v hs (by omega)
    simpa using hread
  · rintro rfl
    rw [memRead_memWrite a (n := 2) (k := 2) v hs (by decide)]
    cases s.cfg.bigEndianMem <;> rfl

/-- Settles O10: the frame of the bytes written; the canonical form is kept and no other field is touched. -/
theorem memWriteLeavesOtherBytes : Obligations.MemWriteLeavesOtherBytes := by
  refine fun s a n v hs => ⟨fun x hx => ?_, State.wf_memWrite s a n v hs, rfl⟩
  exact read_writeBytes_of_ne hs (by simpa using hx)

/-- Settles O7: the three answers of the step, by what the fetch and the decoder answer. -/
theorem stepRunsTheDecodedInstruction : Obligations.StepRunsTheDecodedInstruction :=
  fun _ => ⟨fun _ _ => step_of_decode_eq_some, fun _ => step_of_decode_eq_none, step_of_fetchWord_eq_none⟩

end

section
/-! SUPPORT. The fields of an instruction word (30_encoding.md): a word is the encoding of an instruction, but for the bits printed x,
exactly if each field of the row's figure holds its value. -/

namespace Sys2Proof.Proofs

open Sys2Proof.Laws

/-! ## Fields -/

theorem fld_lt (w : Word) (lo len : Nat) : fld w lo len < 2 ^ len := Nat.mod_lt _ (Nat.two_pow_pos len)

/-- Two adjacent fields read as one. -/
theorem fld_add (w : Word) (lo m n : Nat) : fld w lo (m + n) = fld w lo m + 2 ^ m * fld w (lo + m) n := by
  simp only [fld, Nat.pow_add, Nat.mod_mul, Nat.div_div_eq_div_mul]

theorem fld_bit_eq_one {w : Word} {lo : Nat} (h : ¬ fld w lo 1 = 0) : fld w lo 1 = 1 := by
  have hlt := fld_lt w lo 1
  omega

theorem fld_eq_rtAt (w : Word) : fld w 21 5 = (rtAt w).val := (Nat.mod_eq_of_lt (fld_lt w 21 5)).symm
theorem fld_eq_rsAt (w : Word) : fld w 16 5 = (rsAt w).val := (Nat.mod_eq_of_lt (fld_lt w 16 5)).symm
theorem fld_eq_rdAt (w : Word) : fld w 11 5 = (rdAt w).val := (Nat.mod_eq_of_lt (fld_lt w 11 5)).symm
theorem fld_eq_acAt (w : Word) : fld w 14 2 = (acAt w).val := (Nat.mod_eq_of_lt (fld_lt w 14 2)).symm

theorem rtAt_eq {w : Word} {r : Reg} (h : fld w 21 5 = r.val) : rtAt w = r := Fin.ext ((fld_eq_rtAt w).symm.trans h)
theorem rsAt_eq {w : Word} {r : Reg} (h : fld w 16 5 = r.val) : rsAt w = r := Fin.ext ((fld_eq_rsAt w).symm.trans h)
theorem rdAt_eq {w : Word} {r : Reg} (h : fld w 11 5 = r.val) : rdAt w = r := Fin.ext ((fld_eq_rdAt w).symm.trans h)
theorem acAt_eq {w : Word} {a : Acc} (h : fld w 14 2 = a.val) : acAt w = a := Fin.ext ((fld_eq_acAt w).symm.trans h)

/-! ## Two's complement fields (30_encoding.md R102) -/

theorem twos_ofTwos {n len : Nat} (h : n < 2 ^ len) : twos (ofTwos n len) len = n := by
  have hmod : (n : Int) % (2 ^ len : Nat) = n := Int.emod_eq_of_lt (by omega) (by omega)
  unfold twos ofTwos
  split
  · rw [hmod, Int.toNat_natCast]
  · rw [Int.sub_emod_right, hmod, Int.toNat_natCast]

theorem ofTwos_twos {x : Int} {len : Nat} (hlow : -(2 ^ len : Nat) ≤ 2 * x) (hhigh : 2 * x < (2 ^ len : Nat)) :
    ofTwos (twos x len) len = x := by
  unfold ofTwos twos
  by_cases hx : 0 ≤ x
  · rw [Int.emod_eq_of_lt hx (by omega), if_pos (by omega)]
    omega
  · rw [← Int.add_emod_right, Int.emod_eq_of_lt (by omega) (by omega), if_neg (by omega)]
    omega

theorem ofTwos_range {n len : Nat} (h : n < 2 ^ len) : -(2 ^ len : Nat) ≤ 2 * ofTwos n len ∧ 2 * ofTwos n len < (2 ^ len : Nat) := by
  unfold ofTwos
  split <;> omega

theorem twos_even {x : Int} {len : Nat} (hlen : 0 < len) (h : x % 2 = 0) : twos x len % 2 = 0 := by
  have hdvd : (2 : Int) ∣ (2 ^ len : Nat) := by exact_mod_cast dvd_pow_self 2 hlen.ne'
  have hnonneg : 0 ≤ x % (2 ^ len : Nat) := Int.emod_nonneg x (by simp)
  have hmod : x % (2 ^ len : Nat) % 2 = x % 2 := Int.emod_emod_of_dvd x hdvd
  unfold twos
  omega

theorem ofTwos_even {n len : Nat} (hlen : 0 < len) (h : n % 2 = 0) : ofTwos n len % 2 = 0 := by
  have hdvd : 2 ∣ 2 ^ len := dvd_pow_self 2 hlen.ne'
  unfold ofTwos
  split <;> omega

/-! ## The ranges of the signed immediates (30_encoding.md R102) -/

theorem wf_replPh_iff {rt : Reg} {imm : Int} : (Instr.replPh rt imm).wf = true ↔ -512 ≤ imm ∧ imm ≤ 511 := by
  simp [Instr.wf]

theorem wf_shilo_iff {ac : Acc} {shift : Int} : (Instr.shilo ac shift).wf = true ↔ -32 ≤ shift ∧ shift ≤ 31 := by
  simp [Instr.wf]

theorem wf_bposge32c_iff {offset : Int} :
    (Instr.bposge32c offset).wf = true ↔ -16384 ≤ offset ∧ offset ≤ 16382 ∧ offset % 2 = 0 := by
  simp [Instr.wf, and_assoc]

/-! ## A word and the pieces of a figure -/

/-- The word is the instruction's encoding but for the bits printed x. -/
def Encodes (w : Word) (i : Instr) : Prop := i.wf = true ∧ w &&& ~~~i.ignoredBits = encode i

/-- The number drawn by a figure: the lengths and values of its pieces, from bit 0 up. -/
def assemble : List (Nat × Nat) → Nat
  | [] => 0
  | (len, x) :: ps => x + 2 ^ len * assemble ps

/-- From bit `lo` up, the word holds the pieces. -/
def Holds (w : Word) : Nat → List (Nat × Nat) → Prop
  | _, [] => True
  | lo, (len, x) :: ps => fld w lo len = x ∧ Holds w (lo + len) ps

/-- Each value has room in its piece. -/
def Fits (ps : List (Nat × Nat)) : Prop := ∀ p ∈ ps, p.2 < 2 ^ p.1

def totalLength (ps : List (Nat × Nat)) : Nat := (ps.map Prod.fst).sum

theorem assemble_lt {ps : List (Nat × Nat)} (hfit : Fits ps) : assemble ps < 2 ^ totalLength ps := by
  induction ps with
  | nil => decide
  | cons p ps ih =>
    obtain ⟨hp, hps⟩ := List.forall_mem_cons.1 hfit
    simp only [totalLength, List.map_cons, List.sum_cons, Nat.pow_add, assemble]
    calc p.2 + 2 ^ p.1 * assemble ps
      _ < 2 ^ p.1 * (assemble ps + 1) := by rw [Nat.mul_succ]; omega
      _ ≤ 2 ^ p.1 * 2 ^ totalLength ps := Nat.mul_le_mul_left _ (ih hps)

theorem div_eq_assemble_iff {w : Word} {ps : List (Nat × Nat)} {lo : Nat} (hfit : Fits ps) (hlen : lo + totalLength ps = 32) :
    w.toNat / 2 ^ lo = assemble ps ↔ Holds w lo ps := by
  induction ps generalizing lo with
  | nil =>
    obtain rfl : lo = 32 := hlen
    simp [assemble, Holds, Nat.div_eq_of_lt w.isLt]
  | cons p ps ih =>
    obtain ⟨len, x⟩ := p
    obtain ⟨hx, hps⟩ := List.forall_mem_cons.1 hfit
    have hrest := ih (lo := lo + len) hps (by simpa [totalLength, Nat.add_assoc] using hlen)
    rw [Holds, assemble, ← hrest, fld, Nat.pow_add, ← Nat.div_div_eq_div_mul, and_comm, Nat.div_mod_unique (Nat.two_pow_pos len)]
    exact ⟨fun h => ⟨h.symm, hx⟩, fun h => h.1.symm⟩

/-- A word is the number drawn exactly if it holds every piece: no figure draws a word in two ways. -/
theorem toNat_eq_assemble_iff {w : Word} {ps : List (Nat × Nat)} (hfit : Fits ps) (hlen : totalLength ps = 32) :
    w.toNat = assemble ps ↔ Holds w 0 ps := by
  rw [← div_eq_assemble_iff hfit (by omega), Nat.pow_zero, Nat.div_one]

/-! ## The bits printed x -/

theorem toNat_and_not_add_toNat_and (w m : Word) : (w &&& ~~~m).toNat + (w &&& m).toNat = w.toNat := by
  have hdisjoint : (w &&& ~~~m) &&& (w &&& m) = 0#32 := by
    ext k hk
    cases hw : w[k] <;> simp [hw]
  have hunion : (w &&& ~~~m) ||| (w &&& m) = w := by
    ext k hk
    cases hw : w[k] <;> simp [hw]
  rw [← BitVec.toNat_add_of_and_eq_zero hdisjoint, BitVec.add_eq_or_of_and_eq_zero _ _ hdisjoint, hunion]

theorem toNat_and_field {w m : Word} (lo len : Nat) (h : m.toNat = (2 ^ len - 1) * 2 ^ lo) :
    (w &&& m).toNat = fld w lo len * 2 ^ lo := by
  rw [BitVec.toNat_and, h]
  refine Nat.eq_of_testBit_eq fun k => ?_
  by_cases hk : lo ≤ k <;> simp [Nat.testBit_mul_two_pow, fld, Nat.testBit_div_two_pow, hk, Bool.and_comm]

theorem toNat_and_of_eq_zero {w m : Word} (h : m = 0#32) : (w &&& m).toNat = 0 := by
  rw [h, BitVec.and_zero, BitVec.toNat_zero]

/-- Bits [15:10], printed x in CMP and CMPU, as bit 10 and the place of rd. -/
theorem toNat_and_cmpFree {w m : Word} (h : m = 0x0000FC00#32) : (w &&& m).toNat = fld w 10 1 * 1024 + fld w 11 5 * 2048 := by
  have hadd : fld w 10 6 = fld w 10 1 + 2 * fld w 11 5 := fld_add w 10 1 5
  rw [h, toNat_and_field 10 6 rfl, hadd]
  omega

/-- The two fields printed x in SHILO. -/
theorem toNat_and_shiloFree {w m : Word} (h : m = 0x03C03C00#32) : (w &&& m).toNat = fld w 10 4 * 1024 + fld w 22 4 * 4194304 := by
  rw [h, ← toNat_and_not_add_toNat_and _ 0x00003C00#32, BitVec.and_assoc, BitVec.and_assoc, toNat_and_field 22 4 rfl,
    toNat_and_field 10 4 rfl]
  omega

/-- A figure of 32 bits whose pieces are the row's match value, its operands and, where it prints x, the word's own bits, is a test
for the words of the row. -/
theorem encodes_iff_holds {w : Word} {i : Instr} {free : Nat} (ps : List (Nat × Nat)) (hfree : (w &&& i.ignoredBits).toNat = free)
    (hval : encodeNat i + free = assemble ps) (hfit : Fits ps) (hlen : totalLength ps = 32) :
    Encodes w i ↔ i.wf = true ∧ Holds w 0 ps := by
  have hlt : assemble ps < 2 ^ 32 := hlen ▸ assemble_lt hfit
  have hw := toNat_and_not_add_toNat_and w i.ignoredBits
  rw [Encodes, ← toNat_eq_assemble_iff hfit hlen, ← hval, encode, ← BitVec.toNat_inj, BitVec.toNat_ofNat, Nat.mod_eq_of_lt (by omega)]
  refine and_congr_right fun _ => ?_
  omega

/-- What a figure says of a word that encodes the instruction. -/
theorem Encodes.fields {w : Word} {i : Instr} {P : Prop} (h : Encodes w i) (hfigure : Encodes w i ↔ i.wf = true ∧ P) : P :=
  (hfigure.1 h).2

/-! ## The figures of the formats

In each, `M` is the match value of the row, `k` what its operands add to it, and `x` the content of the bits printed x, if any. -/

section Formats

variable {w : Word} {i : Instr} {M k free : Nat}

/-- Formats 3R and 3R-sa5 (30_encoding.md R85, R86). -/
theorem encodes_iff_format3R (x a b c : Nat) (henc : encodeNat i = M + k) (hfree : (w &&& i.ignoredBits).toNat = free)
    (hk : k + free = x * 1024 + a * 2048 + b * 65536 + c * 2097152) (hfit : M / 1024 % 2 + x < 2 ∧ a < 32 ∧ b < 32 ∧ c < 32)
    (hM : 2 ^ 29 ≤ M ∧ M < 2 ^ 29 + 2 ^ 11) :
    Encodes w i ↔ i.wf = true ∧ fld w 0 3 = M % 8 ∧ fld w 3 3 = M / 8 % 8 ∧ fld w 6 4 = M / 64 % 16 ∧
      fld w 10 1 = M / 1024 % 2 + x ∧ fld w 11 5 = a ∧ fld w 16 5 = b ∧ fld w 21 5 = c ∧ fld w 26 6 = 8 := by
  rw [encodes_iff_holds [(3, M % 8), (3, M / 8 % 8), (4, M / 64 % 16), (1, M / 1024 % 2 + x), (5, a), (5, b), (5, c), (6, 8)]
    hfree (by simp only [assemble]; omega) (by simp [Fits]; omega) rfl]
  simp [Holds]

/-- Format sa4 (30_encoding.md R87). -/
theorem encodes_iff_formatSa4 (x a b c : Nat) (henc : encodeNat i = M + k) (hfree : (w &&& i.ignoredBits).toNat = free)
    (hk : k + free = x * 2048 + a * 4096 + b * 65536 + c * 2097152) (hfit : M / 2048 % 2 + x < 2 ∧ a < 16 ∧ b < 32 ∧ c < 32)
    (hM : 2 ^ 29 ≤ M ∧ M < 2 ^ 29 + 2 ^ 12) :
    Encodes w i ↔ i.wf = true ∧ fld w 0 3 = M % 8 ∧ fld w 3 3 = M / 8 % 8 ∧ fld w 6 4 = M / 64 % 16 ∧
      fld w 10 1 = M / 1024 % 2 ∧ fld w 11 1 = M / 2048 % 2 + x ∧ fld w 12 4 = a ∧ fld w 16 5 = b ∧ fld w 21 5 = c ∧
      fld w 26 6 = 8 := by
  rw [encodes_iff_holds [(3, M % 8), (3, M / 8 % 8), (4, M / 64 % 16), (1, M / 1024 % 2), (1, M / 2048 % 2 + x), (4, a), (5, b),
    (5, c), (6, 8)] hfree (by simp only [assemble]; omega) (by simp [Fits]; omega) rfl]
  simp [Holds]

/-- Format REPL.PH (30_encoding.md R94). -/
theorem encodes_iff_formatReplPh (x a c : Nat) (henc : encodeNat i = M + k) (hfree : (w &&& i.ignoredBits).toNat = free)
    (hk : k + free = x * 1024 + a * 2048 + c * 2097152) (hfit : x < 2 ∧ a < 1024 ∧ c < 32) (hM : 2 ^ 29 ≤ M ∧ M < 2 ^ 29 + 2 ^ 10) :
    Encodes w i ↔ i.wf = true ∧ fld w 0 3 = M % 8 ∧ fld w 3 3 = M / 8 % 8 ∧ fld w 6 4 = M / 64 % 16 ∧
      fld w 10 1 = x ∧ fld w 11 10 = a ∧ fld w 21 5 = c ∧ fld w 26 6 = 8 := by
  rw [encodes_iff_holds [(3, M % 8), (3, M / 8 % 8), (4, M / 64 % 16), (1, x), (10, a), (5, c), (6, 8)]
    hfree (by simp only [assemble]; omega) (by simp [Fits]; omega) rfl]
  simp [Holds]

/-- Format SHILO (30_encoding.md R95). -/
theorem encodes_iff_formatShilo (x y a b : Nat) (henc : encodeNat i = M + k) (hfree : (w &&& i.ignoredBits).toNat = free)
    (hk : k + free = x * 1024 + a * 16384 + b * 65536 + y * 4194304) (hfit : x < 16 ∧ a < 4 ∧ b < 64 ∧ y < 16)
    (hM : 2 ^ 29 ≤ M ∧ M < 2 ^ 29 + 2 ^ 10) :
    Encodes w i ↔ i.wf = true ∧ fld w 0 3 = M % 8 ∧ fld w 3 3 = M / 8 % 8 ∧ fld w 6 4 = M / 64 % 16 ∧
      fld w 10 4 = x ∧ fld w 14 2 = a ∧ fld w 16 6 = b ∧ fld w 22 4 = y ∧ fld w 26 6 = 8 := by
  rw [encodes_iff_holds [(3, M % 8), (3, M / 8 % 8), (4, M / 64 % 16), (4, x), (2, a), (6, b), (4, y), (6, 8)]
    hfree (by simp only [assemble]; omega) (by simp [Fits]; omega) rfl]
  simp [Holds]

/-- Format 2R, and format sa4-P where the bits [15:12] of M are 0 (30_encoding.md R88, R92). -/
theorem encodes_iff_format2R (a b c : Nat) (henc : encodeNat i = M + k) (hfree : (w &&& i.ignoredBits).toNat = 0)
    (hk : k = a * 4096 + b * 65536 + c * 2097152) (hfit : M / 4096 % 16 + a < 16 ∧ b < 32 ∧ c < 32)
    (hM : 2 ^ 29 ≤ M ∧ M < 2 ^ 29 + 2 ^ 16) :
    Encodes w i ↔ i.wf = true ∧ fld w 0 3 = M % 8 ∧ fld w 3 3 = M / 8 % 8 ∧ fld w 6 3 = M / 64 % 8 ∧ fld w 9 3 = M / 512 % 8 ∧
      fld w 12 4 = M / 4096 % 16 + a ∧ fld w 16 5 = b ∧ fld w 21 5 = c ∧ fld w 26 6 = 8 := by
  rw [encodes_iff_holds [(3, M % 8), (3, M / 8 % 8), (3, M / 64 % 8), (3, M / 512 % 8), (4, M / 4096 % 16 + a), (5, b), (5, c), (6, 8)]
    hfree (by simp only [assemble]; omega) (by simp [Fits]; omega) rfl]
  simp [Holds]

/-- Format sa3 (30_encoding.md R91). -/
theorem encodes_iff_formatSa3 (a b c : Nat) (henc : encodeNat i = M + k) (hfree : (w &&& i.ignoredBits).toNat = 0)
    (hk : k = a * 8192 + b * 65536 + c * 2097152) (hfit : a < 8 ∧ b < 32 ∧ c < 32) (hM : 2 ^ 29 ≤ M ∧ M < 2 ^ 29 + 2 ^ 13) :
    Encodes w i ↔ i.wf = true ∧ fld w 0 3 = M % 8 ∧ fld w 3 3 = M / 8 % 8 ∧ fld w 6 3 = M / 64 % 8 ∧ fld w 9 3 = M / 512 % 8 ∧
      fld w 12 1 = M / 4096 % 2 ∧ fld w 13 3 = a ∧ fld w 16 5 = b ∧ fld w 21 5 = c ∧ fld w 26 6 = 8 := by
  rw [encodes_iff_holds [(3, M % 8), (3, M / 8 % 8), (3, M / 64 % 8), (3, M / 512 % 8), (1, M / 4096 % 2), (3, a), (5, b), (5, c), (6, 8)]
    hfree (by simp only [assemble]; omega) (by simp [Fits]; omega) rfl]
  simp [Holds]

/-- Format REPL.QB (30_encoding.md R93). -/
theorem encodes_iff_formatReplQb (x a c : Nat) (henc : encodeNat i = M + k) (hfree : (w &&& i.ignoredBits).toNat = free)
    (hk : k + free = x * 4096 + a * 8192 + c * 2097152) (hfit : x < 2 ∧ a < 256 ∧ c < 32) (hM : 2 ^ 29 ≤ M ∧ M < 2 ^ 29 + 2 ^ 12) :
    Encodes w i ↔ i.wf = true ∧ fld w 0 3 = M % 8 ∧ fld w 3 3 = M / 8 % 8 ∧ fld w 6 3 = M / 64 % 8 ∧ fld w 9 3 = M / 512 % 8 ∧
      fld w 12 1 = x ∧ fld w 13 8 = a ∧ fld w 21 5 = c ∧ fld w 26 6 = 8 := by
  rw [encodes_iff_holds [(3, M % 8), (3, M / 8 % 8), (3, M / 64 % 8), (3, M / 512 % 8), (1, x), (8, a), (5, c), (6, 8)]
    hfree (by simp only [assemble]; omega) (by simp [Fits]; omega) rfl]
  simp [Holds]

/-- Format AC; where rs or rt is printed x, `b` or `c` is its content (30_encoding.md R89). -/
theorem encodes_iff_formatAC (a b c : Nat) (henc : encodeNat i = M + k) (hfree : (w &&& i.ignoredBits).toNat = free)
    (hk : k + free = a * 16384 + b * 65536 + c * 2097152) (hfit : a < 4 ∧ b < 32 ∧ c < 32) (hM : 2 ^ 29 ≤ M ∧ M < 2 ^ 29 + 2 ^ 14) :
    Encodes w i ↔ i.wf = true ∧ fld w 0 3 = M % 8 ∧ fld w 3 3 = M / 8 % 8 ∧ fld w 6 3 = M / 64 % 8 ∧ fld w 9 3 = M / 512 % 8 ∧
      fld w 12 2 = M / 4096 % 4 ∧ fld w 14 2 = a ∧ fld w 16 5 = b ∧ fld w 21 5 = c ∧ fld w 26 6 = 8 := by
  rw [encodes_iff_holds [(3, M % 8), (3, M / 8 % 8), (3, M / 64 % 8), (3, M / 512 % 8), (2, M / 4096 % 4), (2, a), (5, b), (5, c), (6, 8)]
    hfree (by simp only [assemble]; omega) (by simp [Fits]; omega) rfl]
  simp [Holds]

/-- Format DSPCTL (30_encoding.md R90). -/
theorem encodes_iff_formatDspctl (a c : Nat) (henc : encodeNat i = M + k) (hfree : (w &&& i.ignoredBits).toNat = 0)
    (hk : k = a * 16384 + c * 2097152) (hfit : a < 128 ∧ c < 32) (hM : 2 ^ 29 ≤ M ∧ M < 2 ^ 29 + 2 ^ 14) :
    Encodes w i ↔ i.wf = true ∧ fld w 0 3 = M % 8 ∧ fld w 3 3 = M / 8 % 8 ∧ fld w 6 3 = M / 64 % 8 ∧ fld w 9 3 = M / 512 % 8 ∧
      fld w 12 2 = M / 4096 % 4 ∧ fld w 14 7 = a ∧ fld w 21 5 = c ∧ fld w 26 6 = 8 := by
  rw [encodes_iff_holds [(3, M % 8), (3, M / 8 % 8), (3, M / 64 % 8), (3, M / 512 % 8), (2, M / 4096 % 4), (7, a), (5, c), (6, 8)]
    hfree (by simp only [assemble]; omega) (by simp [Fits]; omega) rfl]
  simp [Holds]

/-- Format BPOSGE32C, s[14] in bit 0 (30_encoding.md R96). -/
theorem encodes_bposge32c_iff (offset : Int) :
    Encodes w (.bposge32c offset) ↔ (Instr.bposge32c offset).wf = true ∧ fld w 0 1 = twos offset 15 / 16384 ∧
      fld w 1 13 = twos offset 15 / 2 % 8192 ∧ fld w 14 2 = 1 ∧ fld w 16 5 = 4 ∧ fld w 26 6 = 34 := by
  have htwos := twos_lt offset 15
  have hx := fld_lt w 21 5
  rw [encodes_iff_holds [(1, twos offset 15 / 16384), (13, twos offset 15 / 2 % 8192), (2, 1), (5, 4), (5, fld w 21 5), (6, 34)]
    (toNat_and_field 21 5 rfl) (by simp only [encodeNat, branchField, assemble]; omega) (by simp [Fits]; omega) rfl]
  simp [Holds]

end Formats

end Sys2Proof.Proofs
end

section
/-! SUPPORT. Decoding and encoding agree (30_encoding.md R83 to R102, R105): every word that encodes an instruction is decoded to it,
and every leaf of the decoder answers an instruction that the word encodes. -/

namespace Sys2Proof.Proofs

open Sys2Proof.Laws

/-! ## From the encoding to the decoder -/

theorem decode_eq_decode3R {w : Word} (hop : fld w 26 6 = 8) (h0 : fld w 0 3 = 5) : decode w = decode3R w := by
  simp only [decode, hop, decodeP32A, h0]

theorem decode_eq_decodePool7 {w : Word} (hop : fld w 26 6 = 8) (h0 : fld w 0 3 = 7) : decode w = decodePool7 w := by
  simp only [decode, hop, decodeP32A, h0]

theorem decode_of_encodes_replPh {w : Word} {rt : Reg} {imm : Int} (h : Encodes w (.replPh rt imm)) :
    decode w = some (.replPh rt imm) := by
  obtain ⟨hlow, hhigh⟩ := wf_replPh_iff.1 h.1
  have himm : ofTwos (twos imm 10) 10 = imm := ofTwos_twos (by omega) (by omega)
  obtain ⟨h0, h3, h6, _, hfld, hrt, hop⟩ := h.fields (encodes_iff_formatReplPh (fld w 10 1) (twos imm 10) rt rfl
    (toNat_and_field 10 1 rfl) (by omega) ⟨fld_lt w 10 1, twos_lt imm 10, rt.isLt⟩ (by decide))
  simp [decode_eq_decode3R hop h0, decode3R, h3, decode3R7, h6, signedFld, hfld, himm, rtAt_eq hrt]

theorem decode_of_encodes_shilo {w : Word} {ac : Acc} {shift : Int} (h : Encodes w (.shilo ac shift)) :
    decode w = some (.shilo ac shift) := by
  obtain ⟨hlow, hhigh⟩ := wf_shilo_iff.1 h.1
  have hshift : ofTwos (twos shift 6) 6 = shift := ofTwos_twos (by omega) (by omega)
  obtain ⟨h0, h3, h6, _, hac, hfld, _, hop⟩ := h.fields (encodes_iff_formatShilo (fld w 10 4) (fld w 22 4) ac (twos shift 6) rfl
    (toNat_and_shiloFree rfl) (by omega) ⟨fld_lt w 10 4, ac.isLt, twos_lt shift 6, fld_lt w 22 4⟩ (by decide))
  simp [decode_eq_decode3R hop h0, decode3R, h3, decode3R3, h6, signedFld, hfld, hshift, acAt_eq hac]

theorem decode_of_encodes_bposge32c {w : Word} {offset : Int} (h : Encodes w (.bposge32c offset)) :
    decode w = some (.bposge32c offset) := by
  obtain ⟨hlow, hhigh, heven⟩ := wf_bposge32c_iff.1 h.1
  have htwos : twos offset 15 / 16384 * 16384 + twos offset 15 / 2 % 8192 * 2 = twos offset 15 := by
    have hlt := twos_lt offset 15
    have hbit0 := twos_even (len := 15) (by decide) heven
    omega
  have hoffset : ofTwos (twos offset 15) 15 = offset := ofTwos_twos (by omega) (by omega)
  obtain ⟨h0, h1, h14, h16, hop⟩ := h.fields (encodes_bposge32c_iff offset)
  simp [decode, hop, h14, h16, branchOffset, h0, h1, htwos, hoffset]

/-- The decoder finds the row of every word that encodes an instruction, format by format. -/
theorem decode_of_encodes {w : Word} {i : Instr} (h : Encodes w i) : decode w = some i := by
  have hwf := h.1
  have hx10 := fld_lt w 10 1
  cases i with
  | addqPh rd rs rt | addqSPh rd rs rt | adduQb rd rs rt | adduSQb rd rs rt | adduhQb rd rs rt | adduhRQb rd rs rt
  | adduPh rd rs rt | adduSPh rd rs rt | addqhPh rd rs rt | addqhRPh rd rs rt | addqhW rd rs rt | addqhRW rd rs rt
  | subqPh rd rs rt | subqSPh rd rs rt | subuQb rd rs rt | subuSQb rd rs rt | subuhQb rd rs rt | subuhRQb rd rs rt
  | subuPh rd rs rt | subuSPh rd rs rt | subqhPh rd rs rt | subqhRPh rd rs rt | subqhW rd rs rt | subqhRW rd rs rt
  | shllvPh rd rt rs | shllvSPh rd rt rs | shravQb rd rt rs | shravRQb rd rt rs | shravPh rd rt rs | shravRPh rd rt rs
  | mulPh rd rs rt | mulSPh rd rs rt =>
    obtain ⟨h0, h3, h6, h10, hrd, hrs, hrt, hop⟩ :=
      h.fields (encodes_iff_format3R 0 rd rs rt rfl (toNat_and_of_eq_zero rfl) (by omega) (by omega) (by decide))
    simp [decode_eq_decode3R hop h0, decode3R, h3, decode3R1, decode3R5, h6, h10, rdAt_eq hrd, rsAt_eq hrs, rtAt_eq hrt]
  | addqSW rd rs rt | subqSW rd rs rt | addsc rd rs rt | addwc rd rs rt | modsub rd rs rt | precrQbPh rd rs rt
  | precrqQbPh rd rs rt | precrqPhW rd rs rt | precrqRsPhW rd rs rt | precrquSQbPh rd rs rt | muleuSPhQbl rd rs rt
  | muleuSPhQbr rd rs rt | mulqRsPh rd rs rt | muleqSWPhl rd rs rt | muleqSWPhr rd rs rt | mulqSPh rd rs rt | mulqSW rd rs rt
  | mulqRsW rd rs rt | cmpgduEqQb rd rs rt | cmpgduLtQb rd rs rt | cmpgduLeQb rd rs rt | cmpguEqQb rd rs rt
  | cmpguLtQb rd rs rt | cmpguLeQb rd rs rt | pickQb rd rs rt | pickPh rd rs rt | packrlPh rd rs rt
  | shllvQb rd rt rs | shllvSW rd rt rs | shrlvQb rd rt rs | shrlvPh rd rt rs | shravRW rd rt rs =>
    obtain ⟨h0, h3, h6, _, hrd, hrs, hrt, hop⟩ :=
      h.fields (encodes_iff_format3R (fld w 10 1) rd rs rt rfl (toNat_and_field 10 1 rfl) (by omega) (by omega) (by decide))
    simp [decode_eq_decode3R hop h0, decode3R, h3, decode3R0, decode3R2, decode3R4, decode3R5, h6, rdAt_eq hrd, rsAt_eq hrs,
      rtAt_eq hrt]
  | cmpuEqQb rs rt | cmpuLtQb rs rt | cmpuLeQb rs rt | cmpEqPh rs rt | cmpLtPh rs rt | cmpLePh rs rt =>
    have hx11 := fld_lt w 11 5
    obtain ⟨h0, h3, h6, _, _, hrs, hrt, hop⟩ :=
      h.fields (encodes_iff_format3R (fld w 10 1) (fld w 11 5) rs rt rfl (toNat_and_cmpFree rfl) (by omega) (by omega) (by decide))
    simp [decode_eq_decode3R hop h0, decode3R, h3, decode3R0, h6, rsAt_eq hrs, rtAt_eq hrt]
  | precrSraPhW rt rs sa | precrSraRPhW rt rs sa =>
    have hsa : sa < 32 := of_decide_eq_true hwf
    obtain ⟨h0, h3, h6, h10, hsa, hrs, hrt, hop⟩ :=
      h.fields (encodes_iff_format3R 0 sa rs rt rfl (toNat_and_of_eq_zero rfl) (by omega) (by omega) (by decide))
    simp [decode_eq_decode3R hop h0, decode3R, h3, decode3R1, h6, h10, hsa, rsAt_eq hrs, rtAt_eq hrt]
  | shllSW rt rs sa | shraRW rt rs sa =>
    have hsa : sa < 32 := of_decide_eq_true hwf
    obtain ⟨h0, h3, h6, _, hsa, hrs, hrt, hop⟩ :=
      h.fields (encodes_iff_format3R (fld w 10 1) sa rs rt rfl (toNat_and_field 10 1 rfl) (by omega) (by omega) (by decide))
    simp [decode_eq_decode3R hop h0, decode3R, h3, decode3R6, h6, hsa, rsAt_eq hrs, rtAt_eq hrt]
  | shllPh rt rs sa | shllSPh rt rs sa =>
    have hsa : sa < 16 := of_decide_eq_true hwf
    obtain ⟨h0, h3, h6, h10, h11, hsa, hrs, hrt, hop⟩ :=
      h.fields (encodes_iff_formatSa4 0 sa rs rt rfl (toNat_and_of_eq_zero rfl) (by omega) (by omega) (by decide))
    simp [decode_eq_decode3R hop h0, decode3R, h3, decode3R6, h6, fld_add w 10 1 1, h10, h11, hsa, rsAt_eq hrs, rtAt_eq hrt]
  | shraPh rt rs sa | shraRPh rt rs sa =>
    have hsa : sa < 16 := of_decide_eq_true hwf
    have hx := fld_lt w 11 1
    obtain ⟨h0, h3, h6, h10, _, hsa, hrs, hrt, hop⟩ :=
      h.fields (encodes_iff_formatSa4 (fld w 11 1) sa rs rt rfl (toNat_and_field 11 1 rfl) (by omega) (by omega) (by decide))
    simp [decode_eq_decode3R hop h0, decode3R, h3, decode3R6, h6, h10, hsa, rsAt_eq hrs, rtAt_eq hrt]
  | replPh rt imm => exact decode_of_encodes_replPh h
  | shilo ac shift => exact decode_of_encodes_shilo h
  | radduWQb rt rs | absqSQb rt rs | absqSPh rt rs | absqSW rt rs | preceqWPhl rt rs | preceqWPhr rt rs | precequPhQbl rt rs
  | precequPhQbr rt rs | precequPhQbla rt rs | precequPhQbra rt rs | preceuPhQbl rt rs | preceuPhQbr rt rs
  | preceuPhQbla rt rs | preceuPhQbra rt rs | bitrev rt rs | insv rt rs | replvQb rt rs | replvPh rt rs =>
    obtain ⟨h0, h3, h6, h9, h12, hrs, hrt, hop⟩ :=
      h.fields (encodes_iff_format2R 0 rs rt rfl (toNat_and_of_eq_zero rfl) (by omega) (by omega) (by decide))
    simp [decode_eq_decodePool7 hop h0, decodePool7, h3, h6, decode2R, h9, h12, rsAt_eq hrs, rtAt_eq hrt]
  | shrlPh rt rs sa =>
    have hsa : sa < 16 := of_decide_eq_true hwf
    obtain ⟨h0, h3, h6, h9, hsa, hrs, hrt, hop⟩ :=
      h.fields (encodes_iff_format2R sa rs rt rfl (toNat_and_of_eq_zero rfl) (by omega) (by omega) (by decide))
    simp [decode_eq_decodePool7 hop h0, decodePool7, h3, h6, decodeImm, h9, hsa, rsAt_eq hrs, rtAt_eq hrt]
  | shllQb rt rs sa | shrlQb rt rs sa | shraQb rt rs sa | shraRQb rt rs sa =>
    have hsa : sa < 8 := of_decide_eq_true hwf
    obtain ⟨h0, h3, h6, h9, h12, hsa, hrs, hrt, hop⟩ :=
      h.fields (encodes_iff_formatSa3 sa rs rt rfl (toNat_and_of_eq_zero rfl) (by omega) (by omega) (by decide))
    simp [decode_eq_decodePool7 hop h0, decodePool7, h3, h6, decodeAC1, decodeImm, h9, h12, hsa, rsAt_eq hrs, rtAt_eq hrt]
  | replQb rt imm =>
    have himm : imm < 256 := of_decide_eq_true hwf
    have hx := fld_lt w 12 1
    obtain ⟨h0, h3, h6, h9, _, himm, hrt, hop⟩ :=
      h.fields (encodes_iff_formatReplQb (fld w 12 1) imm rt rfl (toNat_and_field 12 1 rfl) (by omega) (by omega) (by decide))
    simp [decode_eq_decodePool7 hop h0, decodePool7, h3, h6, decodeImm, h9, himm, rtAt_eq hrt]
  | dpauHQbl ac rs rt | dpauHQbr ac rs rt | dpsuHQbl ac rs rt | dpsuHQbr ac rs rt | dpaWPh ac rs rt | dpaxWPh ac rs rt
  | dpaqSWPh ac rs rt | dpaqxSWPh ac rs rt | dpaqxSaWPh ac rs rt | dpsWPh ac rs rt | dpsxWPh ac rs rt | dpsqSWPh ac rs rt
  | dpsqxSWPh ac rs rt | dpsqxSaWPh ac rs rt | mulsaqSWPh ac rs rt | dpaqSaLW ac rs rt | dpsqSaLW ac rs rt | maqSWPhl ac rs rt
  | maqSWPhr ac rs rt | maqSaWPhl ac rs rt | maqSaWPhr ac rs rt | mulsaWPh ac rs rt | madd ac rs rt | maddu ac rs rt
  | msub ac rs rt | msubu ac rs rt | mult ac rs rt | multu ac rs rt
  | extrvSH rt ac rs | extrvW rt ac rs | extrvRW rt ac rs | extrvRsW rt ac rs | extpv rt ac rs | extpdpv rt ac rs =>
    obtain ⟨h0, h3, h6, h9, h12, hac, hrs, hrt, hop⟩ :=
      h.fields (encodes_iff_formatAC ac rs rt rfl (toNat_and_of_eq_zero rfl) (by omega) (by omega) (by decide))
    simp [decode_eq_decodePool7 hop h0, decodePool7, h3, h6, decodeAC1, decodeAC2, h9, h12, acAt_eq hac, rsAt_eq hrs, rtAt_eq hrt]
  | extrW rt ac n | extrRW rt ac n | extrRsW rt ac n | extrSH rt ac n | extp rt ac n | extpdp rt ac n =>
    have hn : n < 32 := of_decide_eq_true hwf
    obtain ⟨h0, h3, h6, h9, h12, hac, hn, hrt, hop⟩ :=
      h.fields (encodes_iff_formatAC ac n rt rfl (toNat_and_of_eq_zero rfl) (by omega) (by omega) (by decide))
    simp [decode_eq_decodePool7 hop h0, decodePool7, h3, h6, decodeAC1, h9, h12, hn, acAt_eq hac, rtAt_eq hrt]
  | shilov ac rs | mthlip rs ac | mthi rs ac | mtlo rs ac =>
    have hx := fld_lt w 21 5
    obtain ⟨h0, h3, h6, h9, h12, hac, hrs, _, hop⟩ :=
      h.fields (encodes_iff_formatAC ac rs (fld w 21 5) rfl (toNat_and_field 21 5 rfl) (by omega) (by omega) (by decide))
    simp [decode_eq_decodePool7 hop h0, decodePool7, h3, h6, decodeAC1, h9, h12, acAt_eq hac, rsAt_eq hrs]
  | mfhi rt ac | mflo rt ac =>
    have hx := fld_lt w 16 5
    obtain ⟨h0, h3, h6, h9, h12, hac, _, hrt, hop⟩ :=
      h.fields (encodes_iff_formatAC ac (fld w 16 5) rt rfl (toNat_and_field 16 5 rfl) (by omega) (by omega) (by decide))
    simp [decode_eq_decodePool7 hop h0, decodePool7, h3, h6, decodeAC1, h9, h12, acAt_eq hac, rtAt_eq hrt]
  | wrdsp rt mask | rddsp rt mask =>
    have hmask : mask < 128 := of_decide_eq_true hwf
    obtain ⟨h0, h3, h6, h9, h12, hmask, hrt, hop⟩ :=
      h.fields (encodes_iff_formatDspctl mask rt rfl (toNat_and_of_eq_zero rfl) (by omega) (by omega) (by decide))
    simp [decode_eq_decodePool7 hop h0, decodePool7, h3, h6, decodeAC1, h9, h12, hmask, rtAt_eq hrt]
  | bposge32c offset => exact decode_of_encodes_bposge32c h

/-! ## From the decoder to the encoding -/

/-- Whatever the decoder answers, the word encodes it. -/
def Sound (w : Word) (o : Option Instr) : Prop := ∀ i, o = some i → Encodes w i

theorem sound_none (w : Word) : Sound w none := nofun

theorem sound_some {w : Word} {i : Instr} (h : Encodes w i) : Sound w (some i) := fun _ hi => Option.some.inj hi ▸ h

/-- A leaf that tests one function bit. -/
theorem sound_ite_bit {w : Word} {lo : Nat} {i j : Instr} (h0 : fld w lo 1 = 0 → Encodes w i) (h1 : fld w lo 1 = 1 → Encodes w j) :
    Sound w (if fld w lo 1 = 0 then some i else some j) := by
  split
  case isTrue h => exact sound_some (h0 h)
  case isFalse h => exact sound_some (h1 (fld_bit_eq_one h))

section Leaves

variable {w : Word} {i : Instr} {M k : Nat}

theorem encodes_of_format3R (hop : fld w 26 6 = 8) (hwf : i.wf = true) (henc : encodeNat i = M + k) (hfree : i.ignoredBits = 0#32)
    (hk : k = (rdAt w).val * 2048 + (rsAt w).val * 65536 + (rtAt w).val * 2097152) (hM : 2 ^ 29 ≤ M ∧ M < 2 ^ 29 + 2 ^ 11)
    (h0 : fld w 0 3 = M % 8) (h3 : fld w 3 3 = M / 8 % 8) (h6 : fld w 6 4 = M / 64 % 16) (h10 : fld w 10 1 = M / 1024 % 2) :
    Encodes w i :=
  (encodes_iff_format3R 0 (rdAt w) (rsAt w) (rtAt w) henc (toNat_and_of_eq_zero hfree) (by rw [hk]; omega)
    (by omega) hM).2
    ⟨hwf, h0, h3, h6, h10, fld_eq_rdAt w, fld_eq_rsAt w, fld_eq_rtAt w, hop⟩

/-- The rows of format 3R whose bit 10 is printed x. -/
theorem encodes_of_format3R_x (hop : fld w 26 6 = 8) (hwf : i.wf = true) (henc : encodeNat i = M + k)
    (hfree : i.ignoredBits = 0x00000400#32)
    (hk : k = (rdAt w).val * 2048 + (rsAt w).val * 65536 + (rtAt w).val * 2097152) (hM : 2 ^ 29 ≤ M ∧ M < 2 ^ 29 + 2 ^ 10)
    (h0 : fld w 0 3 = M % 8) (h3 : fld w 3 3 = M / 8 % 8) (h6 : fld w 6 4 = M / 64 % 16) : Encodes w i := by
  have hx := fld_lt w 10 1
  exact (encodes_iff_format3R (fld w 10 1) (rdAt w) (rsAt w) (rtAt w) henc (toNat_and_field 10 1 (by rw [hfree]; rfl)) (by omega) (by omega)
    (by omega)).2 ⟨hwf, h0, h3, h6, by omega, fld_eq_rdAt w, fld_eq_rsAt w, fld_eq_rtAt w, hop⟩

/-- CMP and CMPU, which have no rd. -/
theorem encodes_of_format3R_cmp (hop : fld w 26 6 = 8) (hwf : i.wf = true) (henc : encodeNat i = M + k)
    (hfree : i.ignoredBits = 0x0000FC00#32) (hk : k = (rsAt w).val * 65536 + (rtAt w).val * 2097152)
    (hM : 2 ^ 29 ≤ M ∧ M < 2 ^ 29 + 2 ^ 10)
    (h0 : fld w 0 3 = M % 8) (h3 : fld w 3 3 = M / 8 % 8) (h6 : fld w 6 4 = M / 64 % 16) : Encodes w i := by
  have hx := fld_lt w 10 1
  exact (encodes_iff_format3R (fld w 10 1) (rdAt w) (rsAt w) (rtAt w) henc (toNat_and_cmpFree hfree)
    (by rw [fld_eq_rdAt]; omega) (by omega) (by omega)).2
    ⟨hwf, h0, h3, h6, by omega, fld_eq_rdAt w, fld_eq_rsAt w, fld_eq_rtAt w, hop⟩

/-- The rows of format 3R-sa5 whose bit 10 is printed x. -/
theorem encodes_of_format3RSa5_x (hop : fld w 26 6 = 8) (hwf : i.wf = true) (henc : encodeNat i = M + k)
    (hfree : i.ignoredBits = 0x00000400#32)
    (hk : k = (rtAt w).val * 2097152 + (rsAt w).val * 65536 + fld w 11 5 % 32 * 2048) (hM : 2 ^ 29 ≤ M ∧ M < 2 ^ 29 + 2 ^ 10)
    (h0 : fld w 0 3 = M % 8) (h3 : fld w 3 3 = M / 8 % 8) (h6 : fld w 6 4 = M / 64 % 16) : Encodes w i :=
  encodes_of_format3R_x hop hwf henc hfree (by rw [hk, fld_eq_rdAt]; omega) hM h0 h3 h6

theorem encodes_of_format2R (hop : fld w 26 6 = 8) (hwf : i.wf = true) (henc : encodeNat i = M + k) (hfree : i.ignoredBits = 0#32)
    (hk : k = (rtAt w).val * 2097152 + (rsAt w).val * 65536) (hM : 2 ^ 29 ≤ M ∧ M < 2 ^ 29 + 2 ^ 16)
    (h0 : fld w 0 3 = M % 8) (h3 : fld w 3 3 = M / 8 % 8) (h6 : fld w 6 3 = M / 64 % 8) (h9 : fld w 9 3 = M / 512 % 8)
    (h12 : fld w 12 4 = M / 4096 % 16) : Encodes w i :=
  (encodes_iff_format2R 0 (rsAt w) (rtAt w) henc (toNat_and_of_eq_zero hfree) (by rw [hk]; omega) (by omega) hM).2
    ⟨hwf, h0, h3, h6, h9, h12, fld_eq_rsAt w, fld_eq_rtAt w, hop⟩

theorem encodes_of_formatSa3 (hop : fld w 26 6 = 8) (hwf : i.wf = true) (henc : encodeNat i = M + k) (hfree : i.ignoredBits = 0#32)
    (hk : k = (rtAt w).val * 2097152 + (rsAt w).val * 65536 + fld w 13 3 % 8 * 8192) (hM : 2 ^ 29 ≤ M ∧ M < 2 ^ 29 + 2 ^ 13)
    (h0 : fld w 0 3 = M % 8) (h3 : fld w 3 3 = M / 8 % 8) (h6 : fld w 6 3 = M / 64 % 8) (h9 : fld w 9 3 = M / 512 % 8)
    (h12 : fld w 12 1 = M / 4096 % 2) : Encodes w i :=
  (encodes_iff_formatSa3 (fld w 13 3 % 8) (rsAt w) (rtAt w) henc (toNat_and_of_eq_zero hfree) (by rw [hk]; omega) (by omega) hM).2
    ⟨hwf, h0, h3, h6, h9, h12, (Nat.mod_eq_of_lt (fld_lt w 13 3)).symm, fld_eq_rsAt w, fld_eq_rtAt w, hop⟩

/-- In format AC the place of rs or of rt may hold bits printed x. -/
theorem encodes_of_formatAC {free : Nat} (hop : fld w 26 6 = 8) (hwf : i.wf = true) (henc : encodeNat i = M + k)
    (hfree : (w &&& i.ignoredBits).toNat = free)
    (hk : k + free = (acAt w).val * 16384 + (rsAt w).val * 65536 + (rtAt w).val * 2097152) (hM : 2 ^ 29 ≤ M ∧ M < 2 ^ 29 + 2 ^ 14)
    (h0 : fld w 0 3 = M % 8) (h3 : fld w 3 3 = M / 8 % 8) (h6 : fld w 6 3 = M / 64 % 8) (h9 : fld w 9 3 = M / 512 % 8)
    (h12 : fld w 12 2 = M / 4096 % 4) : Encodes w i :=
  (encodes_iff_formatAC (acAt w) (rsAt w) (rtAt w) henc hfree hk (by omega) hM).2
    ⟨hwf, h0, h3, h6, h9, h12, fld_eq_acAt w, fld_eq_rsAt w, fld_eq_rtAt w, hop⟩

theorem encodes_of_formatDspctl (hop : fld w 26 6 = 8) (hwf : i.wf = true) (henc : encodeNat i = M + k) (hfree : i.ignoredBits = 0#32)
    (hk : k = (rtAt w).val * 2097152 + fld w 14 7 % 128 * 16384) (hM : 2 ^ 29 ≤ M ∧ M < 2 ^ 29 + 2 ^ 14)
    (h0 : fld w 0 3 = M % 8) (h3 : fld w 3 3 = M / 8 % 8) (h6 : fld w 6 3 = M / 64 % 8) (h9 : fld w 9 3 = M / 512 % 8)
    (h12 : fld w 12 2 = M / 4096 % 4) : Encodes w i :=
  (encodes_iff_formatDspctl (fld w 14 7 % 128) (rtAt w) henc (toNat_and_of_eq_zero hfree) (by rw [hk]; omega) (by omega) hM).2
    ⟨hwf, h0, h3, h6, h9, h12, (Nat.mod_eq_of_lt (fld_lt w 14 7)).symm, fld_eq_rtAt w, hop⟩

end Leaves

theorem sound_decode3R0 {w : Word} (hop : fld w 26 6 = 8) (h0 : fld w 0 3 = 5) (h3 : fld w 3 3 = 0) : Sound w (decode3R0 w) := by
  unfold decode3R0
  split
  case h_1 h6 | h_2 h6 | h_3 h6 | h_10 h6 | h_11 h6 | h_12 h6 =>
    exact sound_some (encodes_of_format3R_cmp hop rfl rfl rfl rfl (by decide) h0 h3 h6)
  case h_17 => exact sound_none w
  all_goals next h6 => exact sound_some (encodes_of_format3R_x hop rfl rfl rfl rfl (by decide) h0 h3 h6)

theorem sound_decode3R1 {w : Word} (hop : fld w 26 6 = 8) (h0 : fld w 0 3 = 5) (h3 : fld w 3 3 = 1) : Sound w (decode3R1 w) := by
  unfold decode3R1
  split
  case h_16 h6 =>
    have hwf : decide (fld w 11 5 < 32) = true := decide_eq_true (fld_lt w 11 5)
    refine sound_ite_bit (fun h10 => ?_) (fun h10 => ?_)
    all_goals exact encodes_of_format3R hop hwf rfl rfl (by rw [fld_eq_rdAt]; omega) (by decide) h0 h3 h6 h10
  case h_17 => exact sound_none w
  all_goals next h6 =>
    refine sound_ite_bit (fun h10 => ?_) (fun h10 => ?_)
    all_goals exact encodes_of_format3R hop rfl rfl rfl (by omega) (by decide) h0 h3 h6 h10

theorem sound_decode3R2 {w : Word} (hop : fld w 26 6 = 8) (h0 : fld w 0 3 = 5) (h3 : fld w 3 3 = 2) : Sound w (decode3R2 w) := by
  unfold decode3R2
  split
  case h_13 => exact sound_none w
  all_goals next h6 => exact sound_some (encodes_of_format3R_x hop rfl rfl rfl (by omega) (by decide) h0 h3 h6)

theorem sound_decode3R3 {w : Word} (hop : fld w 26 6 = 8) (h0 : fld w 0 3 = 5) (h3 : fld w 3 3 = 3) : Sound w (decode3R3 w) := by
  unfold decode3R3
  split
  case h_1 h6 =>
    have hfld := fld_lt w 16 6
    have hrange := ofTwos_range hfld
    have hwf : Instr.wf (.shilo (acAt w) (signedFld w 16 6)) = true := wf_shilo_iff.2 (by rw [signedFld]; omega)
    exact sound_some ((encodes_iff_formatShilo (fld w 10 4) (fld w 22 4) (acAt w) (twos (signedFld w 16 6) 6) rfl
      (toNat_and_shiloFree rfl) (by omega) ⟨fld_lt w 10 4, (acAt w).isLt, twos_lt _ 6, fld_lt w 22 4⟩ (by decide)).2
      ⟨hwf, h0, h3, h6, rfl, fld_eq_acAt w, (twos_ofTwos hfld).symm, rfl, hop⟩)
  case h_2 => exact sound_none w

theorem sound_decode3R4 {w : Word} (hop : fld w 26 6 = 8) (h0 : fld w 0 3 = 5) (h3 : fld w 3 3 = 4) : Sound w (decode3R4 w) := by
  unfold decode3R4
  split
  case h_3 => exact sound_none w
  all_goals next h6 => exact sound_some (encodes_of_format3R_x hop rfl rfl rfl rfl (by decide) h0 h3 h6)

theorem sound_decode3R5 {w : Word} (hop : fld w 26 6 = 8) (h0 : fld w 0 3 = 5) (h3 : fld w 3 3 = 5) : Sound w (decode3R5 w) := by
  unfold decode3R5
  split
  case h_1 h6 =>
    refine sound_ite_bit (fun h10 => ?_) (fun h10 => ?_)
    all_goals exact encodes_of_format3R hop rfl rfl rfl rfl (by decide) h0 h3 h6 h10
  case h_10 => exact sound_none w
  all_goals next h6 => exact sound_some (encodes_of_format3R_x hop rfl rfl rfl rfl (by decide) h0 h3 h6)

theorem sound_decode3R6 {w : Word} (hop : fld w 26 6 = 8) (h0 : fld w 0 3 = 5) (h3 : fld w 3 3 = 6) : Sound w (decode3R6 w) := by
  have hwf5 : decide (fld w 11 5 < 32) = true := decide_eq_true (fld_lt w 11 5)
  have hwf4 : decide (fld w 12 4 < 16) = true := decide_eq_true (fld_lt w 12 4)
  have hx11 := fld_lt w 11 1
  have hsa : fld w 12 4 = fld w 12 4 % 16 := (Nat.mod_eq_of_lt (fld_lt w 12 4)).symm
  unfold decode3R6
  split
  case h_1 h6 | h_4 h6 => exact sound_some (encodes_of_format3RSa5_x hop hwf5 rfl rfl rfl (by decide) h0 h3 h6)
  case h_2 h6 =>
    refine sound_ite_bit (fun h10 => ?_) (fun h10 => ?_)
    all_goals exact (encodes_iff_formatSa4 (fld w 11 1) (fld w 12 4 % 16) (rsAt w) (rtAt w) rfl (toNat_and_field 11 1 rfl)
        (by omega) (by omega) (by decide)).2 ⟨hwf4, h0, h3, h6, h10, by omega, hsa, fld_eq_rsAt w, fld_eq_rtAt w, hop⟩
  case h_3 h6 =>
    have hadd : fld w 10 2 = fld w 10 1 + 2 * fld w 11 1 := fld_add w 10 1 1
    have hx10 := fld_lt w 10 1
    split
    case h_3 => exact sound_none w
    all_goals next h10 =>
      exact sound_some ((encodes_iff_formatSa4 0 (fld w 12 4 % 16) (rsAt w) (rtAt w) rfl (toNat_and_of_eq_zero rfl)
        (by omega) (by omega) (by decide)).2 ⟨hwf4, h0, h3, h6, by omega, by omega, hsa, fld_eq_rsAt w, fld_eq_rtAt w, hop⟩)
  case h_5 => exact sound_none w

theorem sound_decode3R7 {w : Word} (hop : fld w 26 6 = 8) (h0 : fld w 0 3 = 5) (h3 : fld w 3 3 = 7) : Sound w (decode3R7 w) := by
  unfold decode3R7
  split
  case h_1 h6 =>
    have hfld := fld_lt w 11 10
    have hrange := ofTwos_range hfld
    have hwf : Instr.wf (.replPh (rtAt w) (signedFld w 11 10)) = true := wf_replPh_iff.2 (by rw [signedFld]; omega)
    exact sound_some ((encodes_iff_formatReplPh (fld w 10 1) (twos (signedFld w 11 10) 10) (rtAt w) rfl (toNat_and_field 10 1 rfl)
      (by omega) ⟨fld_lt w 10 1, twos_lt _ 10, (rtAt w).isLt⟩ (by decide)).2
      ⟨hwf, h0, h3, h6, rfl, (twos_ofTwos hfld).symm, fld_eq_rtAt w, hop⟩)
  case h_2 => exact sound_none w

theorem sound_decode3R {w : Word} (hop : fld w 26 6 = 8) (h0 : fld w 0 3 = 5) : Sound w (decode3R w) := by
  unfold decode3R
  split
  case h_1 h3 => exact sound_decode3R0 hop h0 h3
  case h_2 h3 => exact sound_decode3R1 hop h0 h3
  case h_3 h3 => exact sound_decode3R2 hop h0 h3
  case h_4 h3 => exact sound_decode3R3 hop h0 h3
  case h_5 h3 => exact sound_decode3R4 hop h0 h3
  case h_6 h3 => exact sound_decode3R5 hop h0 h3
  case h_7 h3 => exact sound_decode3R6 hop h0 h3
  case h_8 h3 => exact sound_decode3R7 hop h0 h3
  case h_9 => exact sound_none w

theorem sound_decode2R {w : Word} (hop : fld w 26 6 = 8) (h0 : fld w 0 3 = 7) (h3 : fld w 3 3 = 7) (h6 : fld w 6 3 = 4) :
    Sound w (decode2R w) := by
  unfold decode2R
  split
  case h_19 => exact sound_none w
  all_goals next h9 h12 => exact sound_some (encodes_of_format2R hop rfl rfl rfl rfl (by decide) h0 h3 h6 h9 h12)

theorem sound_decodeAC2 {w : Word} (hop : fld w 26 6 = 8) (h0 : fld w 0 3 = 7) (h3 : fld w 3 3 = 7) (h6 : fld w 6 3 = 2) :
    Sound w (decodeAC2 w) := by
  unfold decodeAC2
  split
  case h_31 => exact sound_none w
  all_goals next h9 h12 =>
    exact sound_some (encodes_of_formatAC hop rfl rfl (toNat_and_of_eq_zero rfl) (by omega) (by decide) h0 h3 h6 h9 h12)

theorem sound_decodeAC1 {w : Word} (hop : fld w 26 6 = 8) (h0 : fld w 0 3 = 7) (h3 : fld w 3 3 = 7) (h6 : fld w 6 3 = 1) :
    Sound w (decodeAC1 w) := by
  have hwf3 : decide (fld w 13 3 < 8) = true := decide_eq_true (fld_lt w 13 3)
  have hwf5 : decide (fld w 16 5 < 32) = true := decide_eq_true (fld_lt w 16 5)
  have hwf7 : decide (fld w 14 7 < 128) = true := decide_eq_true (fld_lt w 14 7)
  have hrs := fld_eq_rsAt w
  have hrt := fld_eq_rtAt w
  unfold decodeAC1
  split
  case h_1 h9 h12 | h_2 h9 h12 =>
    exact sound_some (encodes_of_formatAC hop rfl rfl (toNat_and_field 16 5 rfl) (by omega) (by decide) h0 h3 h6 h9 h12)
  case h_3 h9 h12 | h_4 h9 h12 | h_5 h9 h12 | h_6 h9 h12 =>
    exact sound_some (encodes_of_formatAC hop rfl rfl (toNat_and_field 21 5 rfl) (by omega) (by decide) h0 h3 h6 h9 h12)
  case h_7 h9 h12 | h_8 h9 h12 =>
    exact sound_some (encodes_of_formatDspctl hop hwf7 rfl rfl rfl (by decide) h0 h3 h6 h9 h12)
  case h_9 h9 h12 | h_10 h9 h12 | h_15 h9 h12 | h_16 h9 h12 | h_17 h9 h12 | h_18 h9 h12 =>
    exact sound_some (encodes_of_formatAC hop hwf5 rfl (toNat_and_of_eq_zero rfl) (by omega) (by decide) h0 h3 h6 h9 h12)
  case h_11 h9 h12 | h_12 h9 h12 | h_13 h9 h12 | h_14 h9 h12 =>
    exact sound_some (encodes_of_formatAC hop rfl rfl (toNat_and_of_eq_zero rfl) (by omega) (by decide) h0 h3 h6 h9 h12)
  case h_19 h9 =>
    refine sound_ite_bit (fun h12 => ?_) (fun h12 => ?_)
    all_goals exact encodes_of_formatSa3 hop hwf3 rfl rfl rfl (by decide) h0 h3 h6 h9 h12
  case h_20 => exact sound_none w

theorem sound_decodeImm {w : Word} (hop : fld w 26 6 = 8) (h0 : fld w 0 3 = 7) (h3 : fld w 3 3 = 7) (h6 : fld w 6 3 = 7) :
    Sound w (decodeImm w) := by
  have hwf3 : decide (fld w 13 3 < 8) = true := decide_eq_true (fld_lt w 13 3)
  have hwf4 : decide (fld w 12 4 < 16) = true := decide_eq_true (fld_lt w 12 4)
  have hwf8 : decide (fld w 13 8 < 256) = true := decide_eq_true (fld_lt w 13 8)
  unfold decodeImm
  split
  case h_1 h9 =>
    refine sound_ite_bit (fun h12 => ?_) (fun h12 => ?_)
    all_goals exact encodes_of_formatSa3 hop hwf3 rfl rfl rfl (by decide) h0 h3 h6 h9 h12
  case h_2 h9 =>
    have hsa := fld_lt w 12 4
    exact sound_some ((encodes_iff_format2R (fld w 12 4 % 16) (rsAt w) (rtAt w) rfl (toNat_and_of_eq_zero rfl) (by omega) (by omega)
      (by decide)).2 ⟨hwf4, h0, h3, h6, h9, by omega, fld_eq_rsAt w, fld_eq_rtAt w, hop⟩)
  case h_3 h9 =>
    have hx := fld_lt w 12 1
    have himm := fld_lt w 13 8
    exact sound_some ((encodes_iff_formatReplQb (fld w 12 1) (fld w 13 8 % 256) (rtAt w) rfl (toNat_and_field 12 1 rfl) (by omega)
      (by omega) (by decide)).2 ⟨hwf8, h0, h3, h6, h9, rfl, by omega, fld_eq_rtAt w, hop⟩)
  case h_4 => exact sound_none w

theorem sound_decodeP32A {w : Word} (hop : fld w 26 6 = 8) : Sound w (decodeP32A w) := by
  unfold decodeP32A
  split
  case h_1 h0 => exact sound_decode3R hop h0
  case h_2 h0 =>
    unfold decodePool7
    split
    case h_1 h3 h6 => exact sound_decode2R hop h0 h3 h6
    case h_2 h3 h6 => exact sound_decodeAC2 hop h0 h3 h6
    case h_3 h3 h6 => exact sound_decodeAC1 hop h0 h3 h6
    case h_4 h3 h6 => exact sound_decodeImm hop h0 h3 h6
    case h_5 => exact sound_none w
  case h_3 => exact sound_none w

theorem encodes_of_branch {w : Word} (hop : fld w 26 6 = 34) (h16 : fld w 16 5 = 4) (h14 : fld w 14 2 = 1) :
    Encodes w (.bposge32c (branchOffset w)) := by
  have hbit := fld_lt w 0 1
  have hfld := fld_lt w 1 13
  have hlt : fld w 0 1 * 16384 + fld w 1 13 * 2 < 2 ^ 15 := by omega
  have hrange := ofTwos_range hlt
  have heven := ofTwos_even (n := fld w 0 1 * 16384 + fld w 1 13 * 2) (len := 15) (by decide) (by omega)
  have hwf : Instr.wf (.bposge32c (branchOffset w)) = true := wf_bposge32c_iff.2 (by rw [branchOffset]; omega)
  have htwos : twos (branchOffset w) 15 = fld w 0 1 * 16384 + fld w 1 13 * 2 := twos_ofTwos hlt
  exact (encodes_bposge32c_iff (branchOffset w)).2 ⟨hwf, by omega, by omega, h14, h16, hop⟩

/-- Every leaf of the decoder answers an instruction that the word encodes. -/
theorem sound_decode (w : Word) : Sound w (decode w) := by
  unfold decode
  split
  case h_1 hop => exact sound_decodeP32A hop
  case h_2 hop =>
    split
    case isTrue h => exact sound_some (encodes_of_branch hop h.1 h.2)
    case isFalse => exact sound_none w
  case h_3 => exact sound_none w

theorem decode_eq_some_iff_encodes (w : Word) (i : Instr) : decode w = some i ↔ Encodes w i :=
  ⟨sound_decode w i, decode_of_encodes⟩

/-! ## The encoding leaves the bits printed x at 0 (30_encoding.md R84) -/

theorem toNat_encode (i : Instr) : (encode i).toNat = encodeNat i % 2 ^ 32 := BitVec.toNat_ofNat ..

theorem branchField_lt (offset : Int) : branchField offset < 16384 := by
  have hlt := twos_lt offset 15
  unfold branchField
  omega

theorem toNat_encode_and_ignoredBits (i : Instr) : (encode i &&& i.ignoredBits).toNat = 0 := by
  cases i with
  | addqSW rd rs rt | subqSW rd rs rt | addsc rd rs rt | addwc rd rs rt | modsub rd rs rt | precrQbPh rd rs rt
  | precrqQbPh rd rs rt | precrqPhW rd rs rt | precrqRsPhW rd rs rt | precrquSQbPh rd rs rt | shllvQb rd rt rs
  | shllSW rt rs sa | shllvSW rd rt rs | shrlvQb rd rt rs | shrlvPh rd rt rs | shraRW rt rs sa | shravRW rd rt rs
  | muleuSPhQbl rd rs rt | muleuSPhQbr rd rs rt | mulqRsPh rd rs rt | muleqSWPhl rd rs rt | muleqSWPhr rd rs rt
  | mulqSPh rd rs rt | mulqSW rd rs rt | mulqRsW rd rs rt | cmpgduEqQb rd rs rt | cmpgduLtQb rd rs rt
  | cmpgduLeQb rd rs rt | cmpguEqQb rd rs rt | cmpguLtQb rd rs rt | cmpguLeQb rd rs rt | pickQb rd rs rt
  | pickPh rd rs rt | packrlPh rd rs rt =>
    rw [toNat_and_field 10 1 rfl, fld, toNat_encode, encodeNat]
    omega
  | replPh rt imm =>
    have hlt := twos_lt imm 10
    rw [toNat_and_field 10 1 rfl, fld, toNat_encode, encodeNat]
    omega
  | shraPh rt rs sa | shraRPh rt rs sa =>
    rw [toNat_and_field 11 1 rfl, fld, toNat_encode, encodeNat]
    omega
  | replQb rt imm =>
    rw [toNat_and_field 12 1 rfl, fld, toNat_encode, encodeNat]
    omega
  | cmpuEqQb rs rt | cmpuLtQb rs rt | cmpuLeQb rs rt | cmpEqPh rs rt | cmpLtPh rs rt | cmpLePh rs rt =>
    rw [toNat_and_field 10 6 rfl, fld, toNat_encode, encodeNat]
    omega
  | mfhi rt ac | mflo rt ac =>
    rw [toNat_and_field 16 5 rfl, fld, toNat_encode, encodeNat]
    omega
  | shilov ac rs | mthlip rs ac | mthi rs ac | mtlo rs ac =>
    rw [toNat_and_field 21 5 rfl, fld, toNat_encode, encodeNat]
    omega
  | bposge32c offset =>
    have hlt : branchField offset < 16384 := branchField_lt offset
    rw [toNat_and_field 21 5 rfl, fld, toNat_encode, encodeNat]
    omega
  | shilo ac shift =>
    have hlt := twos_lt shift 6
    refine (toNat_and_shiloFree rfl).trans ?_
    rw [fld, fld, toNat_encode, encodeNat]
    omega
  | _ => exact toNat_and_of_eq_zero rfl

theorem encodes_encode {i : Instr} (hwf : i.wf = true) : Encodes (encode i) i := by
  refine ⟨hwf, BitVec.eq_of_toNat_eq ?_⟩
  have hsum := toNat_and_not_add_toNat_and (encode i) i.ignoredBits
  rwa [toNat_encode_and_ignoredBits, Nat.add_zero] at hsum

end Sys2Proof.Proofs

open Sys2Proof Sys2Proof.Proofs

/-- Settles O4: a well-formed instruction's own word encodes it, and the decoder finds the row of such a word. -/
theorem decodeOfEncodeIsTheInstruction : Obligations.DecodeOfEncodeIsTheInstruction :=
  fun _ hwf => decode_of_encodes (encodes_encode hwf)

/-- Settles O5: every leaf of the decoder holds the fields of a row's figure, and every figure leads to its leaf. -/
theorem decodedWordIsTheEncodingUpToIgnoredBits : Obligations.DecodedWordIsTheEncodingUpToIgnoredBits :=
  decode_eq_some_iff_encodes

/-- Settles O6: the decoder evaluated on the twelve words. -/
theorem specWordsDecodeAsPrinted : Obligations.SpecWordsDecodeAsPrinted := by
  unfold Obligations.SpecWordsDecodeAsPrinted
  decide

end

section
/-! SUPPORT. What an enabled instruction of a shared shape answers, written out in full: the next states of Safety.lean. -/

namespace Sys2Proof.Proofs

open Sys2Proof.Machine Sys2Proof.Claims

theorem advance_writeGpr (s : State) (r : Reg) (v : Word) : (s.writeGpr r v).advance = toGpr s r v := by
  unfold State.writeGpr toGpr
  split <;> rfl

/-- Writing 1 to a field of one bit is setting that bit. -/
theorem setField_one (d : Word) (bit : Nat) : setField d bit 1#1 = d ||| (1#32 <<< bit) := by
  refine BitVec.eq_of_getLsbD_eq fun k hk => ?_
  rw [getLsbD_setField d bit 1#1 k hk, ← BitVec.twoPow_eq, BitVec.getLsbD_or, BitVec.getLsbD_twoPow]
  by_cases h : k = bit
  · subst h
    simp [hk]
  · rw [if_neg (by omega), decide_eq_false (Ne.symm h), Bool.and_false, Bool.or_false]

theorem dspControl_flagIf_eq_sticky (s : State) (bit : Nat) (b : Bool) :
    (s.flagIf bit b).dspControl = sticky s.dspControl bit b := by
  rw [State.dspControl_flagIf, setField_one, sticky]

theorem advance_writeGpr_flagIf (s : State) (bit : Nat) (r : Reg) (v : Word × Bool) :
    ((s.flagIf bit v.2).writeGpr r v.1).advance = toGprFlag s bit r v := by
  have hflag : s.flagIf bit v.2 = { s with dspControl := sticky s.dspControl bit v.2 } := by
    rw [← dspControl_flagIf_eq_sticky]
    unfold State.flagIf
    split <;> rfl
  rw [advance_writeGpr, hflag]
  rfl

theorem readGpr_toGpr (s : State) (r : Reg) (v : Word) (q : Reg) :
    (toGpr s r v).readGpr q = if q = r ∧ r ≠ 0 then v else s.readGpr q := by
  rw [← advance_writeGpr]
  exact State.readGpr_writeGpr s r v q

theorem readGpr_toGprFlag (s : State) (bit : Nat) (r : Reg) (v : Word × Bool) (q : Reg) :
    (toGprFlag s bit r v).readGpr q = if q = r ∧ r ≠ 0 then v.1 else s.readGpr q := readGpr_toGpr s r v.1 q

section Shapes

variable {s : State} {rev : Revision} {rd rs rt : Reg}

theorem alu3_of_enabled {f : Word → Word → Word} {v : Word} (h : Enabled s rev)
    (hv : f (s.readGpr rs) (s.readGpr rt) = v) : s.alu3 rev rd rs rt f = .next (toGpr s rd v) :=
  State.alu3_eq_next.2 ⟨checkDSP_of_enabled h, by rw [hv, advance_writeGpr]⟩

theorem alu3F_of_enabled {bit : Nat} {f : Word → Word → Flagged 32} {v : Word × Bool} (h : Enabled s rev)
    (hv : f (s.readGpr rs) (s.readGpr rt) = v) : s.alu3F rev bit rd rs rt f = .next (toGprFlag s bit rd v) :=
  State.alu3F_eq_next.2 ⟨checkDSP_of_enabled h, by rw [hv, advance_writeGpr_flagIf]⟩

theorem alu2_of_enabled {f : Word → Word} {v : Word} (h : Enabled s rev) (hv : f (s.readGpr rs) = v) :
    s.alu2 rev rt rs f = .next (toGpr s rt v) :=
  State.alu2_eq_next.2 ⟨checkDSP_of_enabled h, by rw [hv, advance_writeGpr]⟩

theorem alu2F_of_enabled {bit : Nat} {f : Word → Flagged 32} {v : Word × Bool} (h : Enabled s rev)
    (hv : f (s.readGpr rs) = v) : s.alu2F rev bit rt rs f = .next (toGprFlag s bit rt v) :=
  State.alu2F_eq_next.2 ⟨checkDSP_of_enabled h, by rw [hv, advance_writeGpr_flagIf]⟩

end Shapes

/-! ## Lanes: a lane function of the model against the printed one -/

theorem ph2_eq_halves {f g : BitVec 16 → BitVec 16 → BitVec 16 × Bool} (h : ∀ a b, f a b = g a b) (x y : Word) :
    ph2 f x y = halves g x y := by
  simp only [ph2, halves, joinPh, phl, phr, h]

theorem qb2Lanes_eq_bytes {f g : BitVec 8 → BitVec 8 → BitVec 8 × Bool} (h : ∀ a b, f a b = g a b) (x y : Word) :
    qb2Lanes f x y = bytes g x y := by
  simp only [qb2Lanes, bytes, joinQb, qb0, qb1, qb2, qb3, h]

theorem ph2Plain_eq_halves {f : BitVec 16 → BitVec 16 → BitVec 16} {g : BitVec 16 → BitVec 16 → BitVec 16 × Bool}
    (h : ∀ a b, f a b = (g a b).1) (x y : Word) : ph2Plain f x y = (halves g x y).1 := by
  simp only [ph2Plain, halves, joinPh, phl, phr, h]

theorem qb2Plain_eq_bytes {f : BitVec 8 → BitVec 8 → BitVec 8} {g : BitVec 8 → BitVec 8 → BitVec 8 × Bool}
    (h : ∀ a b, f a b = (g a b).1) (x y : Word) : qb2Plain f x y = (bytes g x y).1 := by
  simp only [qb2Plain, bytes, joinQb, qb0, qb1, qb2, qb3, h]

theorem ph1_eq_halves_lane {f g : BitVec 16 → BitVec 16 × Bool} (h : ∀ a, f a = g a) (x : Word) :
    ph1 f x = halves (lane g) x x := by
  simp only [ph1, halves, lane, joinPh, phl, phr, h]

theorem qb1Lanes_eq_bytes_lane {f g : BitVec 8 → BitVec 8 × Bool} (h : ∀ a, f a = g a) (x : Word) :
    qb1Lanes f x = bytes (lane g) x x := by
  simp only [qb1Lanes, bytes, lane, joinQb, qb0, qb1, qb2, qb3, h]

end Sys2Proof.Proofs
end

section
/-! SUPPORT. The bit-string forms of 40_arithmetic.md R121 against the exact integers of Machine/Lanes.lean: an (n+1)-bit interim
result is the integer it stands for, cut to n + 1 bits. -/

namespace Sys2Proof.Proofs

open Sys2Proof.Machine Sys2Proof.Claims

/-! ## The bits of an integer -/

theorem pow2_pos (k : Nat) : 0 < pow2 k := Int.natCast_pos.2 (Nat.two_pow_pos k)

theorem pow2_add (j k : Nat) : pow2 (j + k) = pow2 j * pow2 k := by
  simp only [pow2, Nat.pow_add, Int.natCast_mul]

theorem pow2_succ (k : Nat) : pow2 (k + 1) = pow2 k * 2 := pow2_add k 1

theorem pow2_pred (n : Nat) [NeZero n] : pow2 n = pow2 (n - 1) * 2 := by
  rw [← pow2_succ, Nat.sub_one_add_one (NeZero.ne n)]

/-- Bit k of an integer is the parity of its quotient by 2^k. -/
theorem getLsbD_ofInt {w k : Nat} (h : k < w) (x : Int) :
    (BitVec.ofInt w x).getLsbD k = decide (x / pow2 k % 2 = 1) := by
  have hw : pow2 w = pow2 k * (2 * pow2 (w - k - 1)) := by
    rw [← Int.mul_assoc, ← pow2_succ, ← pow2_add]
    congr 1
    omega
  have hquot : x % pow2 w / pow2 k = x / pow2 k - 2 * (pow2 (w - k - 1) * (x / pow2 w)) := by
    have hmod : x % pow2 w = x + pow2 k * (-(2 * (pow2 (w - k - 1) * (x / pow2 w)))) := by
      rw [Int.emod_def, hw]
      ring
    rw [hmod, Int.add_mul_ediv_left _ _ (pow2_pos k).ne', Int.sub_eq_add_neg]
  have hnonneg : 0 ≤ x % pow2 w := Int.emod_nonneg x (pow2_pos w).ne'
  have hcast : (((BitVec.ofInt w x).toNat / 2 ^ k % 2 : Nat) : Int) = x % pow2 w / pow2 k % 2 := by
    rw [BitVec.toNat_ofInt, Int.natCast_mod, Int.natCast_ediv]
    exact congrArg (· / pow2 k % 2) (Int.toNat_of_nonneg hnonneg)
  rw [← BitVec.testBit_toNat, Nat.testBit_eq_decide_div_mod_eq]
  rw [hquot] at hcast
  refine decide_eq_decide.2 ?_
  omega

/-- A field of the low bits of an integer. -/
theorem extractLsb'_ofInt {w lo n : Nat} (h : lo + n ≤ w) (x : Int) :
    (BitVec.ofInt w x).extractLsb' lo n = BitVec.ofInt n (x / pow2 lo) := by
  refine BitVec.eq_of_getLsbD_eq fun k hk => ?_
  rw [BitVec.getLsbD_extractLsb', getLsbD_ofInt (by omega), getLsbD_ofInt hk, pow2_add,
    ← Int.ediv_ediv_of_nonneg (pow2_pos lo).le]
  simp [hk]

theorem extractLsb'_zero_ofInt (n : Nat) (x : Int) : (BitVec.ofInt (n + 1) x).extractLsb' 0 n = BitVec.ofInt n x := by
  rw [extractLsb'_ofInt (by omega)]
  exact congrArg _ (Int.ediv_one x)

theorem setWidth_eq_ofInt {n : Nat} (m : Nat) (a : BitVec n) : a.setWidth m = BitVec.ofInt m (uint a) := by
  rw [uint, BitVec.ofInt_natCast, BitVec.ofNat_toNat]

/-! ## The interim results as integers, and their ranges -/

theorem ofInt_sub (n : Nat) (x y : Int) : BitVec.ofInt n (x - y) = BitVec.ofInt n x - BitVec.ofInt n y := by
  rw [Int.sub_eq_add_neg, BitVec.ofInt_add, BitVec.ofInt_neg, BitVec.sub_eq_add_neg]

section Interim

variable {n : Nat} (a b : BitVec n)

theorem signExtend_add_eq_ofInt (m : Nat) : a.signExtend m + b.signExtend m = BitVec.ofInt m (a.toInt + b.toInt) :=
  (BitVec.ofInt_add a.toInt b.toInt).symm

theorem signExtend_sub_eq_ofInt (m : Nat) : a.signExtend m - b.signExtend m = BitVec.ofInt m (a.toInt - b.toInt) :=
  (ofInt_sub m a.toInt b.toInt).symm

theorem setWidth_add_eq_ofInt (m : Nat) : a.setWidth m + b.setWidth m = BitVec.ofInt m (uint a + uint b) := by
  rw [BitVec.ofInt_add, setWidth_eq_ofInt, setWidth_eq_ofInt]

theorem ofInt_uint_add : BitVec.ofInt n (uint a + uint b) = a + b := by
  rw [← setWidth_add_eq_ofInt, BitVec.setWidth_eq, BitVec.setWidth_eq]

theorem setWidth_sub_eq_ofInt (m : Nat) : a.setWidth m - b.setWidth m = BitVec.ofInt m (uint a - uint b) := by
  rw [ofInt_sub, setWidth_eq_ofInt, setWidth_eq_ofInt]

theorem two_mul_toInt_range : -pow2 n ≤ 2 * a.toInt ∧ 2 * a.toInt < pow2 n := by
  have hlow := BitVec.le_two_mul_toInt (x := a)
  have hhigh := BitVec.two_mul_toInt_lt (x := a)
  simp only [pow2, Int.natCast_pow, Int.cast_ofNat_Int]
  exact ⟨hlow, hhigh⟩

theorem uint_range : 0 ≤ uint a ∧ uint a < pow2 n :=
  ⟨Int.natCast_nonneg _, Int.ofNat_lt.2 a.isLt⟩

theorem toInt_add_range : -pow2 n ≤ a.toInt + b.toInt ∧ a.toInt + b.toInt < pow2 n := by
  have ha := two_mul_toInt_range a
  have hb := two_mul_toInt_range b
  omega

theorem toInt_sub_range : -pow2 n ≤ a.toInt - b.toInt ∧ a.toInt - b.toInt < pow2 n := by
  have ha := two_mul_toInt_range a
  have hb := two_mul_toInt_range b
  omega

theorem uint_add_range : 0 ≤ uint a + uint b ∧ uint a + uint b < pow2 n * 2 := by
  have ha := uint_range a
  have hb := uint_range b
  omega

theorem uint_sub_range : -pow2 n ≤ uint a - uint b ∧ uint a - uint b < pow2 n := by
  have ha := uint_range a
  have hb := uint_range b
  omega

end Interim

/-! ## The top bits of an interim result -/

section TopBits

variable {n : Nat} {x : Int}

/-- Bit n of a signed interim result is its sign. -/
theorem topBit_ofInt_of_signed (hlow : -pow2 n ≤ x) (hhigh : x < pow2 n) :
    (BitVec.ofInt (n + 1) x).getLsbD n = decide (x < 0) := by
  have hpos := pow2_pos n
  have hneg : x / pow2 n < 0 ↔ x < 0 := by rw [Int.ediv_lt_iff_lt_mul hpos, Int.zero_mul]
  have hge : -1 ≤ x / pow2 n := by rw [Int.le_ediv_iff_mul_le hpos]; omega
  have hlt : x / pow2 n < 1 := by rw [Int.ediv_lt_iff_lt_mul hpos]; omega
  rw [getLsbD_ofInt (Nat.lt_succ_self n)]
  refine decide_eq_decide.2 ?_
  omega

/-- Bit n of an unsigned sum is its carry. -/
theorem topBit_ofInt_of_unsigned (hlow : 0 ≤ x) (hhigh : x < pow2 n * 2) :
    (BitVec.ofInt (n + 1) x).getLsbD n = decide (pow2 n ≤ x) := by
  have hpos := pow2_pos n
  have hcarry : 1 ≤ x / pow2 n ↔ pow2 n ≤ x := by rw [Int.le_ediv_iff_mul_le hpos, Int.one_mul]
  have hge : 0 ≤ x / pow2 n := Int.ediv_nonneg hlow hpos.le
  have hlt : x / pow2 n < 2 := by rw [Int.ediv_lt_iff_lt_mul hpos]; omega
  rw [getLsbD_ofInt (Nat.lt_succ_self n)]
  refine decide_eq_decide.2 ?_
  omega

/-- The top two bits of a signed interim result differ exactly if it is no signed n-bit number. -/
theorem topBits_ofInt_bne [NeZero n] (hlow : -pow2 n ≤ x) (hhigh : x < pow2 n) :
    ((BitVec.ofInt (n + 1) x).getLsbD n != (BitVec.ofInt (n + 1) x).getLsbD (n - 1)) = outS n x := by
  have hpos := pow2_pos (n - 1)
  have hn := pow2_pred n
  have hsign : x / pow2 (n - 1) < 0 ↔ x < 0 := by rw [Int.ediv_lt_iff_lt_mul hpos, Int.zero_mul]
  have hunder : x / pow2 (n - 1) < -1 ↔ x < -pow2 (n - 1) := by
    rw [Int.ediv_lt_iff_lt_mul hpos, Int.neg_mul, Int.one_mul]
  have hover : 1 ≤ x / pow2 (n - 1) ↔ pow2 (n - 1) ≤ x := by rw [Int.le_ediv_iff_mul_le hpos, Int.one_mul]
  have hge : -2 ≤ x / pow2 (n - 1) := by rw [Int.le_ediv_iff_mul_le hpos]; omega
  have hlt : x / pow2 (n - 1) < 2 := by rw [Int.ediv_lt_iff_lt_mul hpos]; omega
  rw [topBit_ofInt_of_signed hlow hhigh, getLsbD_ofInt (by omega), outS, Bool.eq_iff_iff]
  simp only [bne_iff_ne, ne_eq, decide_eq_decide, Bool.or_eq_true, decide_eq_true_eq]
  omega

end TopBits

/-! ## The lane functions -/

theorem ofNat_eq_intMin (n : Nat) : BitVec.ofNat n (2 ^ (n - 1)) = BitVec.intMin n :=
  BitVec.eq_of_toNat_eq (by rw [BitVec.toNat_ofNat, BitVec.toNat_intMin])

theorem ofNat_eq_intMax (n : Nat) [NeZero n] : BitVec.ofNat n (2 ^ (n - 1) - 1) = BitVec.intMax n := by
  have hpow : 2 ^ (n - 1) < 2 ^ n := Nat.pow_lt_pow_right (by decide) (Nat.sub_one_lt (NeZero.ne n))
  have hlt : 2 ^ (n - 1) - 1 < 2 ^ n := Nat.lt_of_le_of_lt (Nat.sub_le _ _) hpow
  exact BitVec.eq_of_toNat_eq (by rw [BitVec.toNat_ofNat, BitVec.toNat_intMax, Nat.mod_eq_of_lt hlt])

theorem ofNat_eq_allOnes (n : Nat) : BitVec.ofNat n (2 ^ n - 1) = BitVec.allOnes n := by
  have hlt : 2 ^ n - 1 < 2 ^ n := Nat.sub_one_lt (Nat.two_pow_pos n).ne'
  exact BitVec.eq_of_toNat_eq (by rw [BitVec.toNat_ofNat, BitVec.toNat_allOnes, Nat.mod_eq_of_lt hlt])

/-- The clamp by the top two bits is the clamp of the integer. -/
theorem clampTop_ofInt {n : Nat} [NeZero n] {x : Int} (hlow : -pow2 n ≤ x) (hhigh : x < pow2 n) :
    clampTop (BitVec.ofInt (n + 1) x) = satS n x := by
  have hpos := pow2_pos (n - 1)
  have htop := topBits_ofInt_bne hlow hhigh
  have heq : (BitVec.ofInt (n + 1) x).getLsbD n = (BitVec.ofInt (n + 1) x).getLsbD (n - 1) ↔ outS n x = false := by
    rw [← htop, bne_eq_false_iff_eq]
  rw [clampTop, satS, ofNat_eq_intMin, ofNat_eq_intMax, extractLsb'_zero_ofInt, if_congr heq rfl rfl,
    topBit_ofInt_of_signed hlow hhigh, outS]
  by_cases hover : pow2 (n - 1) ≤ x
  · have hnonneg : ¬ x < 0 := by omega
    simp [hover, hnonneg]
  · by_cases hunder : x < -pow2 (n - 1)
    · have hneg : x < 0 := by omega
      simp [hover, hunder, hneg]
    · simp [hover, hunder]

section SignedLanes

variable {n : Nat} [NeZero n] (a b : BitVec n)

theorem addS_eq_printed : addS a b = printedAddS a b := by
  obtain ⟨hlow, hhigh⟩ := toInt_add_range a b
  simp only [addS, wrapS, printedAddS, signExtend_add_eq_ofInt, extractLsb'_zero_ofInt, topBits_ofInt_bne hlow hhigh]

theorem subS_eq_printed : subS a b = printedSubS a b := by
  obtain ⟨hlow, hhigh⟩ := toInt_sub_range a b
  simp only [subS, wrapS, printedSubS, signExtend_sub_eq_ofInt, extractLsb'_zero_ofInt, topBits_ofInt_bne hlow hhigh]

theorem satAddS_eq_printed : satAddS a b = printedSatAddS a b := by
  obtain ⟨hlow, hhigh⟩ := toInt_add_range a b
  rw [satAddS, printedSatAddS, signExtend_add_eq_ofInt, clampTop_ofInt hlow hhigh]

theorem satSubS_eq_printed : satSubS a b = printedSatSubS a b := by
  obtain ⟨hlow, hhigh⟩ := toInt_sub_range a b
  rw [satSubS, printedSatSubS, signExtend_sub_eq_ofInt, clampTop_ofInt hlow hhigh]

/-- Only the most negative lane has an absolute value outside the signed range. -/
theorem satAbs_eq_printed : satAbs a = printedAbs a := by
  have hn := pow2_pred n
  have hpos := pow2_pos (n - 1)
  obtain ⟨hlow, hhigh⟩ := two_mul_toInt_range a
  have hmin : a = BitVec.intMin n ↔ a.toInt = -pow2 (n - 1) := by
    rw [← BitVec.toInt_inj, BitVec.toInt_intMin_of_pos (NeZero.pos n)]
    simp [pow2]
  have hsign : a.getLsbD (n - 1) = decide (a.toInt < 0) := by
    rw [← BitVec.msb_eq_getLsbD_last, BitVec.msb_eq_toInt]
  have hunder : ¬ (a.toInt.natAbs : Int) < -pow2 (n - 1) := by omega
  rw [satAbs, satS, printedAbs, ofNat_eq_intMin, ofNat_eq_intMax, hsign, if_neg hunder]
  by_cases h : a.toInt = -pow2 (n - 1)
  · rw [if_pos (hmin.2 h), if_pos (by omega)]
  · rw [if_neg (mt hmin.1 h), if_neg (by omega)]
    by_cases hneg : a.toInt < 0
    · have habs : (a.toInt.natAbs : Int) = -a.toInt := by omega
      rw [if_pos (decide_eq_true hneg), habs, BitVec.ofInt_neg, BitVec.ofInt_toInt, BitVec.zero_sub]
    · have habs : (a.toInt.natAbs : Int) = a.toInt := by omega
      rw [if_neg (by simpa using hneg), habs, BitVec.ofInt_toInt]

end SignedLanes

section UnsignedAndHalvedLanes

variable {n : Nat} (r : Bool) (a b : BitVec n)

theorem addU_eq_printed : addU a b = printedAddU a b := by
  obtain ⟨hlow, hhigh⟩ := uint_add_range a b
  have hneg : ¬ uint a + uint b < 0 := by omega
  simp only [addU, wrapU, outU, printedAddU, setWidth_add_eq_ofInt, extractLsb'_zero_ofInt,
    topBit_ofInt_of_unsigned hlow hhigh, hneg, decide_false, Bool.false_or]

theorem subU_eq_printed : subU a b = printedSubU a b := by
  obtain ⟨hlow, hhigh⟩ := uint_sub_range a b
  have hover : ¬ pow2 n ≤ uint a - uint b := by omega
  simp only [subU, wrapU, outU, printedSubU, setWidth_sub_eq_ofInt, extractLsb'_zero_ofInt,
    topBit_ofInt_of_signed hlow hhigh, hover, decide_false, Bool.or_false]

theorem satAddU_eq_printed : satAddU a b = printedSatAddU a b := by
  obtain ⟨hlow, hhigh⟩ := uint_add_range a b
  have hneg : ¬ uint a + uint b < 0 := by omega
  simp only [satAddU, satU, printedSatAddU, setWidth_add_eq_ofInt, extractLsb'_zero_ofInt,
    topBit_ofInt_of_unsigned hlow hhigh, decide_eq_true_eq, ofNat_eq_allOnes, if_neg hneg]

theorem satSubU_eq_printed : satSubU a b = printedSatSubU a b := by
  obtain ⟨hlow, hhigh⟩ := uint_sub_range a b
  have hover : ¬ pow2 n ≤ uint a - uint b := by omega
  simp only [satSubU, satU, printedSatSubU, setWidth_sub_eq_ofInt, extractLsb'_zero_ofInt,
    topBit_ofInt_of_signed hlow hhigh, decide_eq_true_eq, if_neg hover]

/-- Bits [n:1] of an interim result are its floor half. -/
theorem halved_ofInt (x : Int) : halved r (BitVec.ofInt (n + 1) x) = BitVec.ofInt n ((x + rnd r) / 2) := by
  have hround : (if r then BitVec.ofInt (n + 1) x + 1#(n + 1) else BitVec.ofInt (n + 1) x) = BitVec.ofInt (n + 1) (x + rnd r) := by
    cases r with
    | false => exact congrArg (BitVec.ofInt (n + 1)) (Int.add_zero x).symm
    | true => exact (BitVec.ofInt_add x 1).symm
  rw [halved, hround, extractLsb'_ofInt (by omega)]
  rfl

theorem halfAddS_eq_printed : halfAddS r a b = (printedHalfAddS r a b).1 := by
  rw [halfAddS, printedHalfAddS, signExtend_add_eq_ofInt, halved_ofInt]

theorem halfSubS_eq_printed : halfSubS r a b = (printedHalfSubS r a b).1 := by
  rw [halfSubS, printedHalfSubS, signExtend_sub_eq_ofInt, halved_ofInt]

theorem halfAddU_eq_printed : halfAddU r a b = (printedHalfAddU r a b).1 := by
  rw [halfAddU, printedHalfAddU, setWidth_add_eq_ofInt, halved_ofInt]

theorem halfSubU_eq_printed : halfSubU r a b = (printedHalfSubU r a b).1 := by
  rw [halfSubU, printedHalfSubU, setWidth_sub_eq_ofInt, halved_ofInt]

end UnsignedAndHalvedLanes

end Sys2Proof.Proofs
end

section
/-! SUPPORT. ADDSC, ADDWC and RADDU.W.QB (40_arithmetic.md R148, R149, R151), and the statements about arithmetic. -/

namespace Sys2Proof.Proofs

open Sys2Proof.Machine Sys2Proof.Claims

/-! ## The carry pair -/

/-- `toGpr`, and the carry bit c takes `c`. -/
def toGprCarry (s : State) (r : Reg) (v : Word) (c : BitVec 1) : State :=
  { toGpr s r v with dspControl := setField s.dspControl 13 c }

theorem readGpr_toGprCarry (s : State) (r : Reg) (v : Word) (c : BitVec 1) (q : Reg) :
    (toGprCarry s r v c).readGpr q = if q = r ∧ r ≠ 0 then v else s.readGpr q := readGpr_toGpr s r v q

theorem carry_toGprCarry (s : State) (r : Reg) (v : Word) (c : BitVec 1) : (toGprCarry s r v c).carry = c :=
  extract_setField _ 13 c (by decide)

section CarryPair

variable {s : State} {rd rs rt : Reg}

theorem exec_addsc_of_enabled (h : Enabled s .rev1) :
    exec (.addsc rd rs rt) s = .next (toGprCarry s rd (s.readGpr rs + s.readGpr rt)
      (BitVec.ofBool (outU 32 (uint (s.readGpr rs) + uint (s.readGpr rt))))) := by
  rw [← ofInt_uint_add]
  refine State.guarded_eq_next.2 ⟨checkDSP_of_enabled h, ?_⟩
  rw [State.retire, advance_writeGpr]
  rfl

theorem exec_addwc_of_enabled (h : Enabled s .rev1) :
    exec (.addwc rd rs rt) s =
      .next (toGprFlag s 20 rd (wrapS 32 ((s.readGpr rs).toInt + (s.readGpr rt).toInt + uint s.carry))) := by
  refine State.guarded_eq_next.2 ⟨checkDSP_of_enabled h, ?_⟩
  rw [State.retire, advance_writeGpr_flagIf]

end CarryPair

/-- Bit n of the (n+1)-bit sum of zero-extended operands is the carry out (R148). -/
theorem extractLsb'_setWidth_add_carry {n : Nat} (a b : BitVec n) :
    (a.setWidth (n + 1) + b.setWidth (n + 1)).extractLsb' n 1 = BitVec.ofBool (outU n (uint a + uint b)) := by
  have hflag : outU n (uint a + uint b) = (a.setWidth (n + 1) + b.setWidth (n + 1)).getLsbD n :=
    congrArg Prod.snd (addU_eq_printed a b)
  rw [hflag]
  refine BitVec.eq_of_getLsbD_eq fun k hk => ?_
  obtain rfl : k = 0 := by omega
  simp

/-- The printed mask of bit 13 (10_state.md R43). -/
theorem setField_carry (d : Word) (v : BitVec 1) :
    setField d 13 v = (d &&& 0xFFFFDFFF#32) ||| (v.setWidth 32 <<< 13) := by
  have hmask : ~~~((BitVec.allOnes 1).setWidth 32 <<< 13) = 0xFFFFDFFF#32 := by decide
  rw [setField, hmask]

/-- The interim result of ADDWC: the carry is added to the signed sum, and the three fit 33 bits (R149). -/
theorem wrapS_add_carry (x y : Word) (c : BitVec 1) :
    wrapS 32 (x.toInt + y.toInt + uint c) =
      ((x.signExtend 33 + y.signExtend 33 + c.setWidth 33).extractLsb' 0 32,
        (x.signExtend 33 + y.signExtend 33 + c.setWidth 33).getLsbD 32 !=
          (x.signExtend 33 + y.signExtend 33 + c.setWidth 33).getLsbD 31) := by
  have hx := two_mul_toInt_range x
  have hy := two_mul_toInt_range y
  have hc := uint_range c
  have htwo : pow2 1 = 2 := rfl
  have heven := pow2_pred 32
  have hflag := topBits_ofInt_bne (n := 32) (x := x.toInt + y.toInt + uint c) (by omega) (by omega)
  have hsum : x.signExtend 33 + y.signExtend 33 + c.setWidth 33 = BitVec.ofInt 33 (x.toInt + y.toInt + uint c) := by
    rw [BitVec.ofInt_add, ← signExtend_add_eq_ofInt, setWidth_eq_ofInt]
  rw [hsum, wrapS, ← hflag, extractLsb'_zero_ofInt]

/-- The word ADDWC writes is the sum modulo 2^32. -/
theorem fst_wrapS_add_carry (x y : Word) (c : BitVec 1) :
    (wrapS 32 (x.toInt + y.toInt + uint c)).1 = x + y + c.setWidth 32 := by
  rw [wrapS, BitVec.ofInt_add, BitVec.ofInt_add, BitVec.ofInt_toInt, BitVec.ofInt_toInt, setWidth_eq_ofInt]

theorem toNat_append_words (h l : Word) : (h ++ l).toNat = h.toNat * 2 ^ 32 + l.toNat := by
  rw [BitVec.toNat_append, ← Nat.shiftLeft_add_eq_or_of_lt l.isLt, Nat.shiftLeft_eq]

/-- Addition by the pair: the carry out of the low words goes into the sum of the high words. -/
theorem append_add_append (ah al bh bl : Word) :
    (ah ++ al) + (bh ++ bl) =
      (ah + bh + (BitVec.ofBool (outU 32 (uint al + uint bl))).setWidth 32) ++ (al + bl) := by
  have hcarry : outU 32 (uint al + uint bl) = decide (2 ^ 32 ≤ al.toNat + bl.toNat) := by
    rw [outU, uint, uint, pow2, ← Bool.decide_or]
    exact decide_eq_decide.2 (by omega)
  have hal := al.isLt
  have hbl := bl.isLt
  refine BitVec.eq_of_toNat_eq ?_
  rw [hcarry, BitVec.toNat_add, toNat_append_words, toNat_append_words, toNat_append_words]
  simp only [BitVec.toNat_add, BitVec.toNat_setWidth, BitVec.toNat_ofBool]
  by_cases h : 2 ^ 32 ≤ al.toNat + bl.toNat
  · rw [decide_eq_true h, Bool.toNat_true]
    omega
  · rw [decide_eq_false h, Bool.toNat_false]
    omega

/-! ## The sum of the bytes -/

/-- Four bytes add up to less than 2^10 (R151). -/
theorem ofInt_uint_add_bytes (d c b a : Byte) :
    BitVec.ofInt 32 (uint d + uint c + uint b + uint a) =
      (d.setWidth 10 + c.setWidth 10 + b.setWidth 10 + a.setWidth 10).setWidth 32 := by
  have hd := d.isLt
  have hc := c.isLt
  have hb := b.isLt
  have ha := a.isLt
  refine BitVec.eq_of_toNat_eq ?_
  simp only [BitVec.toNat_ofInt, BitVec.toNat_setWidth, BitVec.toNat_add, uint]
  omega

end Sys2Proof.Proofs

open Sys2Proof Sys2Proof.Machine Sys2Proof.Claims Sys2Proof.Proofs

/-- Settles O23: the sum or difference of two signed lanes is an (n+1)-bit number whose top two bits tell whether it fits. -/
theorem signedAddAndSubtractResults : Obligations.SignedAddAndSubtractResults :=
  fun _ _ _ _ =>
    ⟨fun h => alu3F_of_enabled h (ph2_eq_halves addS_eq_printed _ _),
     fun h => alu3F_of_enabled h (ph2_eq_halves satAddS_eq_printed _ _),
     fun h => alu3F_of_enabled h (satAddS_eq_printed _ _),
     fun h => alu3F_of_enabled h (ph2_eq_halves subS_eq_printed _ _),
     fun h => alu3F_of_enabled h (ph2_eq_halves satSubS_eq_printed _ _),
     fun h => alu3F_of_enabled h (satSubS_eq_printed _ _)⟩

/-- Settles O24: bit n of the interim result is the carry of a sum and the borrow of a difference. -/
theorem unsignedAddAndSubtractResults : Obligations.UnsignedAddAndSubtractResults :=
  fun _ _ _ _ =>
    ⟨fun h => alu3F_of_enabled h (qb2Lanes_eq_bytes addU_eq_printed _ _),
     fun h => alu3F_of_enabled h (qb2Lanes_eq_bytes satAddU_eq_printed _ _),
     fun h => alu3F_of_enabled h (ph2_eq_halves addU_eq_printed _ _),
     fun h => alu3F_of_enabled h (ph2_eq_halves satAddU_eq_printed _ _),
     fun h => alu3F_of_enabled h (qb2Lanes_eq_bytes subU_eq_printed _ _),
     fun h => alu3F_of_enabled h (qb2Lanes_eq_bytes satSubU_eq_printed _ _),
     fun h => alu3F_of_enabled h (ph2_eq_halves subU_eq_printed _ _),
     fun h => alu3F_of_enabled h (ph2_eq_halves satSubU_eq_printed _ _)⟩

/-- Settles O25: bits [n:1] of the interim result are the floor of its half. -/
theorem halvingAddAndSubtractResults : Obligations.HalvingAddAndSubtractResults :=
  fun _ _ _ _ =>
    ⟨fun h => alu3_of_enabled h (qb2Plain_eq_bytes (halfAddU_eq_printed false) _ _),
     fun h => alu3_of_enabled h (qb2Plain_eq_bytes (halfAddU_eq_printed true) _ _),
     fun h => alu3_of_enabled h (ph2Plain_eq_halves (halfAddS_eq_printed false) _ _),
     fun h => alu3_of_enabled h (ph2Plain_eq_halves (halfAddS_eq_printed true) _ _),
     fun h => alu3_of_enabled h (halfAddS_eq_printed false _ _),
     fun h => alu3_of_enabled h (halfAddS_eq_printed true _ _),
     fun h => alu3_of_enabled h (qb2Plain_eq_bytes (halfSubU_eq_printed false) _ _),
     fun h => alu3_of_enabled h (qb2Plain_eq_bytes (halfSubU_eq_printed true) _ _),
     fun h => alu3_of_enabled h (ph2Plain_eq_halves (halfSubS_eq_printed false) _ _),
     fun h => alu3_of_enabled h (ph2Plain_eq_halves (halfSubS_eq_printed true) _ _),
     fun h => alu3_of_enabled h (halfSubS_eq_printed false _ _),
     fun h => alu3_of_enabled h (halfSubS_eq_printed true _ _)⟩

/-- Settles O26: bit 32 of the zero-extended sum is the carry out, and the signed sum with the carry fits 33 bits. -/
theorem carryAddResults : Obligations.CarryAddResults := by
  intro s rd rs rt x y u t
  refine ⟨fun h => ?_, fun h => ?_⟩
  · have hsum : u.extractLsb' 0 32 = x + y := by
      rw [← ofInt_uint_add, ← extractLsb'_zero_ofInt, ← setWidth_add_eq_ofInt]
    rw [exec_addsc_of_enabled h, toGprCarry, setField_carry, hsum, ← extractLsb'_setWidth_add_carry]
  · rw [exec_addwc_of_enabled h, wrapS_add_carry]
    rfl

/-- Settles O27: the carry ADDSC leaves in c is the one ADDWC adds to the sum of the high words. -/
theorem addscThenAddwcAddsSixtyFourBits : Obligations.AddscThenAddwcAddsSixtyFourBits := by
  intro s dl dh al ah bl bh henabled hdl hdh hah hbh hne
  have hsc := exec_addsc_of_enabled (rd := dl) (rs := al) (rt := bl) henabled
  generalize hc : BitVec.ofBool (outU 32 (uint (s.readGpr al) + uint (s.readGpr bl))) = c at hsc
  generalize ht : toGprCarry s dl (s.readGpr al + s.readGpr bl) c = t at hsc
  have henabled' : Enabled t .rev1 := ht ▸ henabled
  have hread : ∀ q, q ≠ dl → t.readGpr q = s.readGpr q := fun q hq => by
    rw [← ht, readGpr_toGprCarry, if_neg fun h => hq h.1]
  have hsum : t.readGpr dl = s.readGpr al + s.readGpr bl := by
    rw [← ht, readGpr_toGprCarry, if_pos ⟨rfl, hdl⟩]
  have hcarry : t.carry = c := by rw [← ht, carry_toGprCarry]
  refine ⟨t, _, hsc, exec_addwc_of_enabled henabled', ?_⟩
  rw [readGpr_toGprFlag, if_pos ⟨rfl, hdh⟩, readGpr_toGprFlag, if_neg fun h => hne h.1, fst_wrapS_add_carry, hsum, hcarry,
    hread ah hah.symm, hread bh hbh.symm, append_add_append, hc]

/-- Settles O28: MODSUB as printed, the byte sum below 2^10, and the absolute value of each lane. -/
theorem modsubRadduAndAbsoluteValueResults : Obligations.ModsubRadduAndAbsoluteValueResults :=
  ⟨fun _ _ _ _ h => alu3_of_enabled h rfl,
   fun _ _ _ =>
    ⟨fun h => alu2_of_enabled h (ofInt_uint_add_bytes _ _ _ _),
     fun h => alu2F_of_enabled h (qb1Lanes_eq_bytes_lane satAbs_eq_printed _),
     fun h => alu2F_of_enabled h (ph1_eq_halves_lane satAbs_eq_printed _),
     fun h => alu2F_of_enabled h (satAbs_eq_printed _)⟩⟩

end

section
/-! SUPPORT. The narrowing of lanes (41_precision.md R173, R174, R176, R177): the guard bit of a right shift as the integer it rounds,
and the two saturations. -/

namespace Sys2Proof.Proofs

open Sys2Proof.Machine Sys2Proof.Claims

/-- What an enabled Operation answers whose one write is that of a register. -/
theorem guarded_writeGpr_of_enabled {s : State} {rev : Revision} {r : Reg} {v : Word} (h : Enabled s rev) :
    s.guarded rev (s.writeGpr r v).retire = .next (toGpr s r v) := by
  rw [guarded_of_enabled h, State.retire, advance_writeGpr]

/-! ## The guard bit of a right shift -/

theorem sshiftRight_eq_ofInt {n : Nat} (a : BitVec n) (s : Nat) : a.sshiftRight s = BitVec.ofInt n (a.toInt / pow2 s) := by
  rw [BitVec.sshiftRight_eq, Int.shiftRight_eq_div_pow]
  rfl

/-- A shift that keeps one bit more below the result: the double of the operand is shifted. -/
theorem sshiftRight_append_guard {n : Nat} (a : BitVec n) (s : Nat) :
    (a ++ 0#1).sshiftRight s = BitVec.ofInt (n + 1) (a.toInt * 2 / pow2 s) := by
  rw [sshiftRight_eq_ofInt, BitVec.toInt_append_zero, Int.mul_comm]
  rfl

/-- Dropping the guard bit leaves the plain shift. -/
theorem guard_drop (x : Int) (s : Nat) : x * 2 / pow2 s / 2 = x / pow2 s := by
  rw [Int.ediv_ediv_of_nonneg (pow2_pos s).le, Int.mul_ediv_mul_of_pos_left x _ (by decide)]

/-- Adding 1 at the guard bit rounds half up; a shift by 0 has a guard bit of 0. -/
theorem guard_round (x : Int) (s : Nat) : (x * 2 / pow2 s + 1) / 2 = roundShift s x := by
  cases s with
  | zero =>
    have hone : pow2 0 = 1 := rfl
    rw [roundShift, if_pos rfl, hone, Int.ediv_one]
    omega
  | succ k =>
    have hquot : x * 2 / pow2 (k + 1) + 1 = (x + pow2 k) / pow2 k := by
      rw [pow2_succ, Int.mul_ediv_mul_of_pos_left x _ (by decide), Int.add_ediv_of_dvd_right (Int.dvd_refl _),
        Int.ediv_self (pow2_pos k).ne']
    rw [roundShift, if_neg (Nat.succ_ne_zero k), Nat.add_sub_cancel, hquot, Int.ediv_ediv_of_nonneg (pow2_pos k).le, pow2_succ]

/-- The bits above the guard bit, after 1 is added there or not, narrowed to a lane of `k` bits. -/
theorem extractLsb'_guard {n k : Nat} (hk : 1 + k ≤ n + 1) (a : BitVec n) (s : Nat) (r : Bool) :
    ((a ++ 0#1).sshiftRight s + BitVec.ofInt (n + 1) (rnd r)).extractLsb' 1 k =
      BitVec.ofInt k ((a.toInt * 2 / pow2 s + rnd r) / 2) := by
  rw [sshiftRight_append_guard, ← BitVec.ofInt_add, extractLsb'_ofInt hk]
  rfl

theorem printedShiftReduce_eq (r : Bool) (sa : Nat) (v : Word) :
    printedShiftReduce r sa v = BitVec.ofInt 16 (if r then roundShift sa v.toInt else v.toInt / pow2 sa) := by
  have hplain : printedShiftReduce false sa v = BitVec.ofInt 16 (v.toInt / pow2 sa) := by
    rw [← guard_drop, ← Int.add_zero (v.toInt * 2 / pow2 sa)]
    exact Eq.trans (by simp [printedShiftReduce, rnd]) (extractLsb'_guard (by decide) v sa false)
  cases r with
  | false => exact hplain
  | true =>
    by_cases h : sa = 0
    · subst h
      exact hplain.trans (congrArg (BitVec.ofInt 16) (Int.ediv_one _))
    · rw [if_pos rfl, ← guard_round]
      exact Eq.trans (by simp [printedShiftReduce, rnd, h]) (extractLsb'_guard (by decide) v sa true)

theorem sraLow_eq_printed (sa : Nat) (v : Word) : sraLow sa v = printedShiftReduce false sa v := by
  rw [printedShiftReduce_eq, sraLow, sshiftRight_eq_ofInt, extractLsb'_ofInt (by decide)]
  exact congrArg (BitVec.ofInt 16) (Int.ediv_one _)

theorem sraLowRound_eq_printed (sa : Nat) (v : Word) : sraLowRound sa v = printedShiftReduce true sa v :=
  (printedShiftReduce_eq true sa v).symm

/-! ## The saturating narrowings -/

/-- The rounding constant is not negative, so the sum leaves the Q31 range at its top alone (R176). -/
theorem trunc16Sat16Round_eq_printed (a : Word) : trunc16Sat16Round a = printedTruncRound a := by
  obtain ⟨hmin, hmax⟩ := two_mul_toInt_range a
  have hpow : pow2 32 = pow2 31 * 2 := pow2_succ 31
  have hlarge : 0x8000 < pow2 31 := by decide
  have hsum : a.signExtend 33 + 0x00008000#33 = BitVec.ofInt 33 (a.toInt + 0x8000) := (BitVec.ofInt_add a.toInt 0x8000).symm
  have hunder : ¬ a.toInt + 0x8000 < -pow2 31 := by omega
  have htop := topBits_ofInt_bne (n := 32) (x := a.toInt + 0x8000) (by omega) (by omega)
  have heq : (BitVec.ofInt 33 (a.toInt + 0x8000)).getLsbD 32 = (BitVec.ofInt 33 (a.toInt + 0x8000)).getLsbD 31 ↔
      ¬ pow2 31 ≤ a.toInt + 0x8000 := by
    rw [← bne_eq_false_iff_eq, htop, outS, decide_eq_false hunder, Bool.false_or, decide_eq_false_iff_not]
  rw [trunc16Sat16Round, printedTruncRound, hsum, if_congr heq rfl rfl, satS]
  by_cases hover : pow2 31 ≤ a.toInt + 0x8000
  · rw [if_pos hover, if_neg (not_not.2 hover)]
    rfl
  · rw [if_neg hover, if_neg hunder, if_pos hover, phl, extractLsb'_ofInt (by decide), extractLsb'_ofInt (by decide)]

/-- A halfword that is not negative is its own 15-bit magnitude (R177). -/
theorem sat8ReducePrecision_eq_printed (a : Half) : sat8ReducePrecision a = printedReduce a := by
  have hmsb : a.msb = a.getLsbD 15 := BitVec.msb_eq_getLsbD_last a
  rw [sat8ReducePrecision, printedReduce, hmsb]
  cases hsign : a.getLsbD 15 with
  | true => rfl
  | false =>
    have hdouble := BitVec.msb_eq_false_iff_two_mul_lt.1 (hmsb.trans hsign)
    have hlt : a.toNat < 2 ^ 15 := by omega
    have hmag : (a.extractLsb' 0 15).toNat = a.toNat := by
      rw [BitVec.extractLsb'_toNat, Nat.shiftRight_zero, Nat.mod_eq_of_lt hlt]
    simp [BitVec.lt_def, hmag]

end Sys2Proof.Proofs
end

section
/-! SUPPORT. A word joined of fields of other words, as those words masked and shifted, and the statements about precision. -/

namespace Sys2Proof.Proofs

open Sys2Proof.Machine Sys2Proof.Claims

/-! ## A value in its place in a word -/

/-- A value placed in a word with its lowest bit at `p`. -/
def place {n : Nat} (p : Nat) (v : BitVec n) : Word := v.setWidth 32 <<< p

theorem getLsbD_place {n : Nat} (p : Nat) (v : BitVec n) {k : Nat} (hk : k < 32) :
    (place p v).getLsbD k = (decide (p ≤ k) && v.getLsbD (k - p)) := by
  have hlt : k - p < 32 := by omega
  rw [place, BitVec.getLsbD_shiftLeft, BitVec.getLsbD_setWidth]
  by_cases h : p ≤ k
  · simp [hk, hlt, h]
  · simp [h]

theorem place_append {n m : Nat} (p : Nat) (a : BitVec n) (b : BitVec m) :
    place p (a ++ b) = place (p + m) a ||| place p b := by
  refine BitVec.eq_of_getLsbD_eq fun k hk => ?_
  rw [BitVec.getLsbD_or, getLsbD_place _ _ hk, getLsbD_place _ _ hk, getLsbD_place _ _ hk, BitVec.getLsbD_append]
  by_cases hlow : k - p < m
  · have hout : ¬ p + m ≤ k := by omega
    simp [hlow, hout]
  · have hzero : b.getLsbD (k - p) = false := BitVec.getLsbD_of_ge b _ (Nat.le_of_not_lt hlow)
    have hle : p + m ≤ k ↔ p ≤ k := by omega
    simp [hlow, hzero, hle, Nat.sub_sub]

theorem place_zero (n p : Nat) : place p 0#n = 0#32 := by
  rw [place, BitVec.setWidth_zero, BitVec.zero_shiftLeft]

theorem place_word (v : Word) : place 0 v = v := by
  rw [place, BitVec.setWidth_eq, BitVec.shiftLeft_zero]

theorem joinPh_eq_place (l r : Half) : joinPh l r = place 16 l ||| place 0 r :=
  (place_word (joinPh l r)).symm.trans (place_append 0 l r)

theorem joinQb_eq_place (d c b a : Byte) : joinQb d c b a = place 24 d ||| place 16 c ||| place 8 b ||| place 0 a := by
  rw [← place_word (joinQb d c b a), joinQb, place_append, place_append, place_append]

/-- The left halfword over zeros (R178). -/
theorem joinPh_zero (l : Half) : joinPh l 0#16 = place 16 l := by
  rw [joinPh_eq_place, place_zero, BitVec.or_zero]

/-! ## The widened bytes -/

/-- Seven zeros below a byte and one above it (R180). -/
theorem place_expandQ (p : Nat) (b : Byte) : place p (expandQ b) = place (p + 7) b := by
  rw [expandQ, place_append, place_append, place_zero, place_zero, BitVec.or_zero, BitVec.zero_or]

/-- Eight zeros above a byte (R184). -/
theorem place_expandU (p : Nat) (b : Byte) : place p (expandU b) = place p b := by
  rw [expandU, place_append, place_zero, BitVec.zero_or]

theorem joinPh_expandQ (b a : Byte) : joinPh (expandQ b) (expandQ a) = place 23 b ||| place 7 a := by
  rw [joinPh_eq_place, place_expandQ, place_expandQ]

theorem joinPh_expandU (b a : Byte) : joinPh (expandU b) (expandU a) = place 16 b ||| place 0 a := by
  rw [joinPh_eq_place, place_expandU, place_expandU]

/-! ## A field moved to a place is a mask and a shift -/

section Fields

variable {x m : Word} {lo lo' n p p' k : Nat}

/-- A field in its own place. -/
theorem place_extract (hm : place lo (BitVec.allOnes n) = m) : place lo (x.extractLsb' lo n) = x &&& m := by
  subst hm
  refine BitVec.eq_of_getLsbD_eq fun j hj => ?_
  rw [BitVec.getLsbD_and, getLsbD_place _ _ hj, getLsbD_place _ _ hj, BitVec.getLsbD_extractLsb', BitVec.getLsbD_allOnes]
  by_cases h : lo ≤ j
  · simp [h, Bool.and_comm]
  · simp [h]

/-- A field moved up. -/
theorem place_extract_left (hm : place lo (BitVec.allOnes n) = m) (h : p = lo + k) :
    place p (x.extractLsb' lo n) = (x &&& m) <<< k := by
  rw [← place_extract hm, h, place, BitVec.shiftLeft_add]
  rfl

/-- A field moved down. -/
theorem place_extract_right (hm : place lo (BitVec.allOnes n) = m) (h : lo = p + k) :
    place p (x.extractLsb' lo n) = (x &&& m) >>> k := by
  refine BitVec.eq_of_getLsbD_eq fun j hj => ?_
  rw [← place_extract hm, BitVec.getLsbD_ushiftRight, getLsbD_place _ _ hj]
  by_cases hk : k + j < 32
  · have hle : lo ≤ k + j ↔ p ≤ j := by omega
    have hsub : k + j - lo = j - p := by omega
    rw [getLsbD_place _ _ hk, hsub, decide_eq_decide.2 hle]
  · have hout : p ≤ j → x.getLsbD (lo + (j - p)) = false := fun hp => BitVec.getLsbD_of_ge _ _ (by omega)
    rw [BitVec.getLsbD_of_ge _ (k + j) (Nat.le_of_not_lt hk), BitVec.getLsbD_extractLsb']
    by_cases hp : p ≤ j
    · simp [hout hp]
    · simp [hp]

/-- Two fields in their own places, under one mask. -/
theorem place_pair (hm : place lo (BitVec.allOnes n) ||| place lo' (BitVec.allOnes n) = m) :
    place lo (x.extractLsb' lo n) ||| place lo' (x.extractLsb' lo' n) = x &&& m := by
  rw [place_extract rfl, place_extract rfl, ← BitVec.and_or_distrib_left, hm]

/-- Two fields moved down alike, under one mask. -/
theorem place_pair_right (hm : place lo (BitVec.allOnes n) ||| place lo' (BitVec.allOnes n) = m) (h : lo = p + k)
    (h' : lo' = p' + k) : place p (x.extractLsb' lo n) ||| place p' (x.extractLsb' lo' n) = (x &&& m) >>> k := by
  rw [place_extract_right rfl h, place_extract_right rfl h', ← BitVec.ushiftRight_or_distrib, ← BitVec.and_or_distrib_left,
    hm]

/-- Two fields moved up alike, under one mask. -/
theorem place_pair_left (hm : place lo (BitVec.allOnes n) ||| place lo' (BitVec.allOnes n) = m) (h : p = lo + k)
    (h' : p' = lo' + k) : place p (x.extractLsb' lo n) ||| place p' (x.extractLsb' lo' n) = (x &&& m) <<< k := by
  rw [place_extract_left rfl h, place_extract_left rfl h', ← BitVec.shiftLeft_or_distrib, ← BitVec.and_or_distrib_left, hm]

end Fields

/-- A shift by 16 drops the other halfword, so it needs no mask. -/
theorem place_phl (x : Word) : place 0 (phl x) = x >>> 16 := by
  refine BitVec.eq_of_getLsbD_eq fun k hk => ?_
  rw [getLsbD_place _ _ hk, phl, BitVec.getLsbD_extractLsb', BitVec.getLsbD_ushiftRight]
  by_cases h : k < 16
  · simp [h]
  · simp [h, BitVec.getLsbD_of_ge x (16 + k) (by omega)]

theorem place_phr (x : Word) : place 16 (phr x) = x <<< 16 := by
  refine BitVec.eq_of_getLsbD_eq fun k hk => ?_
  have hlt : k - 16 < 16 := by omega
  rw [getLsbD_place _ _ hk, phr, BitVec.getLsbD_extractLsb', BitVec.getLsbD_shiftLeft, Nat.zero_add]
  by_cases h : k < 16
  · simp [h]
  · simp [h, hk, hlt, Nat.le_of_not_lt h]

end Sys2Proof.Proofs

open Sys2Proof Sys2Proof.Machine Sys2Proof.Claims Sys2Proof.Proofs

/-- Settles O30: the shift with a guard bit is the floor of a quotient, rounded half up if 1 is added there. -/
theorem precisionReduceAfterShiftResults : Obligations.PrecisionReduceAfterShiftResults := by
  intro s rt rs sa _
  refine ⟨fun h => ?_, fun h => ?_⟩
  · rw [← sraLow_eq_printed, ← sraLow_eq_printed]
    exact guarded_writeGpr_of_enabled h
  · rw [← sraLowRound_eq_printed, ← sraLowRound_eq_printed]
    exact guarded_writeGpr_of_enabled h

/-- Settles O31: bits 32 and 31 differ exactly if the rounded word is above the Q31 range, and the magnitude of a halfword that is
not negative is the halfword. -/
theorem precisionReduceWithSaturationResults : Obligations.PrecisionReduceWithSaturationResults := by
  intro s rd rs rt x y
  refine ⟨fun h => ?_, fun h => ?_⟩
  · rw [← trunc16Sat16Round_eq_printed, ← trunc16Sat16Round_eq_printed]
    change execPrecrqRsPhW rd rs rt s = _
    exact alu3F_of_enabled h rfl
  · simp only [← sat8ReducePrecision_eq_printed]
    change execPrecrquSQbPh rd rs rt s = _
    exact alu3F_of_enabled h rfl

/-- Settles O29: each result is joined of fields of its operands, and a field in a place is its operand masked and shifted. -/
theorem precisionTruncationAndExpansionResults : Obligations.PrecisionTruncationAndExpansionResults :=
  ⟨fun s rd rs rt =>
    ⟨fun h => show execPrecrQbPh rd rs rt s = _ from alu3_of_enabled h <| (joinQb_eq_place _ _ _ _).trans <|
      congrArg₂ _ (congrArg₂ _ (congrArg₂ _ (place_extract_left rfl rfl) (place_extract_left rfl rfl))
        (place_extract_right rfl rfl)) (place_extract rfl),
     fun h => show execPrecrqQbPh rd rs rt s = _ from alu3_of_enabled h <| (joinQb_eq_place _ _ _ _).trans <|
      congrArg₂ _ (congrArg₂ _ (congrArg₂ _ (place_extract rfl) (place_extract_left rfl rfl))
        (place_extract_right rfl rfl)) (place_extract_right rfl rfl),
     fun h => show execPrecrqPhW rd rs rt s = _ from alu3_of_enabled h <| (joinPh_eq_place _ _).trans <|
      congrArg₂ _ (place_extract rfl) (place_phl _)⟩,
   fun s rt rs =>
    ⟨fun h => show execPreceqWPhl rt rs s = _ from alu2_of_enabled h <| (joinPh_zero _).trans (place_extract rfl),
     fun h => show execPreceqWPhr rt rs s = _ from alu2_of_enabled h <| (joinPh_zero _).trans (place_phr _),
     fun h => show execPrecequPhQbl rt rs s = _ from alu2_of_enabled h <| (joinPh_expandQ _ _).trans <|
      congrArg₂ _ (place_extract_right rfl rfl) (place_extract_right rfl rfl),
     fun h => show execPrecequPhQbr rt rs s = _ from alu2_of_enabled h <| (joinPh_expandQ _ _).trans <|
      congrArg₂ _ (place_extract_left rfl rfl) (place_extract_left rfl rfl),
     fun h => show execPrecequPhQbla rt rs s = _ from alu2_of_enabled h <| (joinPh_expandQ _ _).trans <|
      place_pair_right rfl rfl rfl,
     fun h => show execPrecequPhQbra rt rs s = _ from alu2_of_enabled h <| (joinPh_expandQ _ _).trans <|
      place_pair_left rfl rfl rfl,
     fun h => show execPreceuPhQbl rt rs s = _ from alu2_of_enabled h <| (joinPh_expandU _ _).trans <|
      congrArg₂ _ (place_extract_right rfl rfl) (place_extract_right rfl rfl),
     fun h => show execPreceuPhQbr rt rs s = _ from alu2_of_enabled h <| (joinPh_expandU _ _).trans <|
      congrArg₂ _ (place_extract_left rfl rfl) (place_extract rfl),
     fun h => show execPreceuPhQbla rt rs s = _ from alu2_of_enabled h <| (joinPh_expandU _ _).trans <|
      place_pair_right rfl rfl rfl,
     fun h => show execPreceuPhQbra rt rs s = _ from alu2_of_enabled h <| (joinPh_expandU _ _).trans <|
      place_pair rfl⟩⟩

end

section
/-! SUPPORT. The lane functions of the left shifts (42_shift.md R223 to R226): a product cut to the lane, against the printed discard
tests. -/

namespace Sys2Proof.Proofs

open Sys2Proof.Machine Sys2Proof.Claims

/-! ## A left shift is a product cut to the lane -/

theorem ofInt_pow2 (n s : Nat) : BitVec.ofInt n (pow2 s) = BitVec.twoPow n s := by
  refine BitVec.eq_of_toNat_eq ?_
  rw [pow2, BitVec.ofInt_natCast, BitVec.toNat_ofNat, BitVec.toNat_twoPow]

theorem ofInt_toInt_mul_pow2 {n : Nat} (s : Nat) (a : BitVec n) : BitVec.ofInt n (a.toInt * pow2 s) = a <<< s := by
  rw [BitVec.ofInt_mul, BitVec.ofInt_toInt, ofInt_pow2, BitVec.shiftLeft_eq_mul_twoPow]

theorem ofInt_uint_mul_pow2 {n : Nat} (s : Nat) (a : BitVec n) : BitVec.ofInt n (uint a * pow2 s) = a <<< s := by
  rw [BitVec.ofInt_mul, ← setWidth_eq_ofInt, BitVec.setWidth_eq, ofInt_pow2, BitVec.shiftLeft_eq_mul_twoPow]

/-- A product by 2^s is outside the unsigned range exactly if one of the top s bits of the lane is 1. -/
theorem outU_mul_pow2 {n s : Nat} (hs : s ≤ n) (a : BitVec n) :
    outU n (uint a * pow2 s) = decide (a.toNat / 2 ^ (n - s) ≠ 0) := by
  have hcast : uint a * pow2 s = ((a.toNat * 2 ^ s : Nat) : Int) := (Int.natCast_mul _ _).symm
  have hpow : 2 ^ n = 2 ^ (n - s) * 2 ^ s := by rw [← Nat.pow_add, Nat.sub_add_cancel hs]
  have hover : pow2 n ≤ uint a * pow2 s ↔ 2 ^ (n - s) ≤ a.toNat := by
    rw [hcast, pow2, Int.ofNat_le, hpow]
    exact Nat.mul_le_mul_right_iff (Nat.two_pow_pos s)
  have hnonneg : ¬ uint a * pow2 s < 0 := by
    rw [hcast]
    exact Int.not_lt.2 (Int.natCast_nonneg _)
  rw [outU, decide_eq_false hnonneg, Bool.false_or, decide_eq_decide, hover, Nat.div_ne_zero_iff]
  exact (and_iff_right (Nat.two_pow_pos _).ne').symm

/-- A product by 2^s is outside the signed range exactly if the factor is outside the range of s bits less. -/
theorem outS_mul_pow2 {n s : Nat} (hs : s < n) (x : Int) :
    outS n (x * pow2 s) = decide (x < -pow2 (n - 1 - s) ∨ pow2 (n - 1 - s) ≤ x) := by
  have hpos := pow2_pos s
  have hpow : pow2 (n - 1) = pow2 (n - 1 - s) * pow2 s := by
    rw [← pow2_add, Nat.sub_add_cancel (Nat.le_sub_one_of_lt hs)]
  have hunder : x * pow2 s < -pow2 (n - 1) ↔ x < -pow2 (n - 1 - s) := by
    rw [hpow, ← Int.neg_mul]
    exact mul_lt_mul_iff_left₀ hpos
  have hover : pow2 (n - 1) ≤ x * pow2 s ↔ pow2 (n - 1 - s) ≤ x := by
    rw [hpow]
    exact mul_le_mul_iff_left₀ hpos
  rw [outS, ← Bool.decide_or, decide_eq_decide, hunder, hover]

theorem mul_pow2_neg_iff (x : Int) (s : Nat) : x * pow2 s < 0 ↔ x < 0 :=
  ⟨fun h => neg_of_mul_neg_left h (pow2_pos s).le, fun h => Int.mul_neg_of_neg_of_pos h (pow2_pos s)⟩

/-- The clamp, by the range test and the sign. -/
theorem satS_eq_ite (n : Nat) (x : Int) :
    satS n x = (if outS n x then (if x < 0 then BitVec.intMin n else BitVec.intMax n) else BitVec.ofInt n x, outS n x) := by
  have hpos := pow2_pos (n - 1)
  rw [satS, outS]
  by_cases hover : pow2 (n - 1) ≤ x
  · have hnonneg : ¬ x < 0 := by omega
    simp [hover, hnonneg]
  · by_cases hunder : x < -pow2 (n - 1)
    · have hneg : x < 0 := by omega
      simp [hover, hunder, hneg]
    · simp [hover, hunder]

/-! ## The discarded bits (42_shift.md R224, R226) -/

theorem toInt_sshiftRight_eq_ediv {n : Nat} (a : BitVec n) (s : Nat) : (a.sshiftRight s).toInt = a.toInt / pow2 s := by
  rw [BitVec.toInt_sshiftRight, Int.shiftRight_eq_div_pow]
  rfl

/-- A bit of a lane shifted right with copies of its sign. -/
theorem getLsbD_sshiftRight_of_lt {n : Nat} (a : BitVec n) (s : Nat) {k : Nat} (hk : k < n) :
    (a.sshiftRight s).getLsbD k = if k + s < n then a.getLsbD (k + s) else a.getLsbD (n - 1) := by
  have hin : ¬ n ≤ k := Nat.not_le.2 hk
  rw [BitVec.getLsbD_sshiftRight, decide_eq_false hin, Bool.not_false, Bool.true_and, Nat.add_comm, BitVec.msb_eq_getLsbD_last]

section Discard

variable {n : Nat} [NeZero n] {s : Nat} (a : BitVec n)

/-- All zeros and all ones are the lanes 0 and -1, so the discard test is the range test of the product. -/
theorem discardMixed_eq_outS (hs : s < n) : discardMixed s a = outS n (a.toInt * pow2 s) := by
  have hpos := pow2_pos (n - 1 - s)
  have hzero : discarded s a = 0#n ↔ a.toInt / pow2 (n - 1 - s) = 0 := by
    rw [← BitVec.toInt_inj, discarded, toInt_sshiftRight_eq_ediv, BitVec.toInt_zero]
  have hones : discarded s a = BitVec.allOnes n ↔ a.toInt / pow2 (n - 1 - s) = -1 := by
    rw [← BitVec.toInt_inj, discarded, toInt_sshiftRight_eq_ediv, BitVec.toInt_allOnes, if_pos (NeZero.pos n)]
  rw [discardMixed, outS_mul_pow2 hs, decide_eq_decide, Ne, Ne, hzero, hones, Int.ediv_eq_iff_of_pos hpos,
    Int.ediv_eq_iff_of_pos hpos]
  omega

/-- A shift by 0 discards nothing. -/
theorem discardMixed_zero : discardMixed 0 a = false := by
  obtain ⟨hlow, hhigh⟩ := two_mul_toInt_range a
  have hn := pow2_pred n
  rw [discardMixed_eq_outS a (NeZero.pos n), outS_mul_pow2 (NeZero.pos n), Nat.sub_zero, decide_eq_false_iff_not]
  omega

/-- A lane is all zeros or all ones exactly if its bits are all equal. -/
theorem eq_zero_or_allOnes_iff : a = 0#n ∨ a = BitVec.allOnes n ↔ ∀ k, k < n → a.getLsbD k = a.getLsbD (n - 1) := by
  have hlast : n - 1 < n := Nat.sub_one_lt (NeZero.ne n)
  constructor
  · rintro (rfl | rfl) k hk
    · simp
    · simp [hk, hlast]
  · intro h
    cases hsign : a.getLsbD (n - 1) with
    | false => exact .inl (BitVec.eq_of_getLsbD_eq fun k hk => by rw [h k hk, hsign, BitVec.getLsbD_zero])
    | true =>
      exact .inr (BitVec.eq_of_getLsbD_eq fun k hk => by rw [h k hk, hsign, BitVec.getLsbD_allOnes, decide_eq_true hk])

/-- The discarded bits are those of the lane from n - 1 - s up. -/
theorem discardMixed_iff (hs : s < n) :
    discardMixed s a = true ↔ ¬ ∀ k, n - 1 - s ≤ k → k ≤ n - 1 → a.getLsbD k = a.getLsbD (n - 1) := by
  have hbit : ∀ k, k < n → (discarded s a).getLsbD k =
      if k + (n - 1 - s) < n then a.getLsbD (k + (n - 1 - s)) else a.getLsbD (n - 1) :=
    fun _ hk => getLsbD_sshiftRight_of_lt a _ hk
  have hlast : (discarded s a).getLsbD (n - 1) = a.getLsbD (n - 1) := by
    rw [hbit (n - 1) (by omega)]
    split
    · congr 1
      omega
    · rfl
  rw [discardMixed, decide_eq_true_iff, ← not_or, eq_zero_or_allOnes_iff, hlast, not_iff_not]
  constructor
  · intro h k hlow hhigh
    rw [← h (k - (n - 1 - s)) (by omega), hbit _ (by omega), if_pos (by omega), Nat.sub_add_cancel hlow]
  · intro h k hk
    rw [hbit k hk]
    split
    · exact h _ (by omega) (by omega)
    · rfl

end Discard

/-! ## The lane functions of the left shifts -/

theorem shift8Left_eq_printed {s : Nat} (hs : s < 8) (a : Byte) : shift8Left s a = printedShift8Left s a := by
  have hflag : s ≠ 0 ∧ a.toNat / 2 ^ (8 - s) ≠ 0 ↔ a.toNat / 2 ^ (8 - s) ≠ 0 := by
    refine and_iff_right_of_imp ?_
    rintro hne rfl
    exact hne (Nat.div_eq_of_lt a.isLt)
  rw [shift8Left, wrapU, ofInt_uint_mul_pow2, outU_mul_pow2 hs.le, printedShift8Left, decide_eq_decide.2 hflag]

theorem shift16Left_eq_printed {s : Nat} (hs : s < 16) (a : Half) : shift16Left s a = printedShift16Left s a := by
  rw [shift16Left, wrapS, ofInt_toInt_mul_pow2, ← discardMixed_eq_outS a hs, printedShift16Left]

/-- The saturating left shift of a lane: the clamp goes by the sign of the product, which is that of the lane. -/
theorem satS_mul_pow2 {n : Nat} [NeZero n] {s : Nat} (hs : s < n) (a : BitVec n) :
    satS n (a.toInt * pow2 s) =
      (if discardMixed s a then (if a.getLsbD (n - 1) then BitVec.intMin n else BitVec.intMax n) else a <<< s,
        discardMixed s a) := by
  have hsign : a.toInt * pow2 s < 0 ↔ a.getLsbD (n - 1) = true := by
    rw [mul_pow2_neg_iff, ← BitVec.msb_eq_getLsbD_last, BitVec.msb_eq_toInt, decide_eq_true_iff]
  rw [satS_eq_ite, ← discardMixed_eq_outS a hs, ofInt_toInt_mul_pow2, if_congr hsign rfl rfl]

theorem satS_mul_pow2_eq_printed {n : Nat} [NeZero n] {s : Nat} (hs : s < n) (a : BitVec n) :
    satS n (a.toInt * pow2 s) = printedSatShiftLeft s a := by
  rw [satS_mul_pow2 hs, printedSatShiftLeft, ofNat_eq_intMin, ofNat_eq_intMax]
  cases discardMixed s a <;> rfl

theorem sat16ShiftLeft_eq_printed {s : Nat} (hs : s < 16) (a : Half) : sat16ShiftLeft s a = printedSatShiftLeft s a :=
  satS_mul_pow2_eq_printed hs a

theorem sat32ShiftLeft_eq_printed {s : Nat} (hs : s < 32) (a : Word) : sat32ShiftLeft s a = printedSatShiftLeft s a :=
  satS_mul_pow2_eq_printed hs a

end Sys2Proof.Proofs
end

section
/-! SUPPORT. The lane functions of the right shifts (42_shift.md R227 to R229): the floor of a quotient, rounded by a guard bit or not;
and the statements about shifts. -/

namespace Sys2Proof.Proofs

open Sys2Proof.Machine Sys2Proof.Claims

/-! ## The lane functions of the right shifts -/

section RightShifts

variable {n : Nat} (s : Nat) (a : BitVec n)

theorem shiftRightLogical_eq_quotientU : shiftRightLogical s a = quotientU s a := by
  have hlt : a.toNat / 2 ^ s < 2 ^ n := Nat.lt_of_le_of_lt (Nat.div_le_self _ _) a.isLt
  refine BitVec.eq_of_toNat_eq ?_
  rw [shiftRightLogical, quotientU, BitVec.toNat_ushiftRight, BitVec.toNat_ofNat, Nat.mod_eq_of_lt hlt,
    Nat.shiftRight_eq_div_pow]

theorem shiftRightArithmetic_eq_quotientS : shiftRightArithmetic s a = quotientS s a := sshiftRight_eq_ofInt a s

/-- One added at the guard bit, and the guard bit dropped (R229). -/
theorem rndShiftRightArithmetic_eq_printed : rndShiftRightArithmetic s a = printedRoundShift s a := by
  have hguard := extractLsb'_guard (Nat.add_comm 1 n).le a s true
  rw [rndShiftRightArithmetic, ← guard_round]
  exact hguard.symm

/-- The rounded quotient of a lane fits the lane, so narrowing it loses nothing. -/
theorem toInt_rndShiftRightArithmetic [NeZero n] : (rndShiftRightArithmetic s a).toInt = roundShift s a.toInt := by
  obtain ⟨hlow, hhigh⟩ := two_mul_toInt_range a
  have hn := pow2_pred n
  have habs := Int.natAbs_ediv_le_natAbs (a.toInt * 2) (pow2 s)
  have hneg : a.toInt * 2 < 0 → a.toInt * 2 / pow2 s < 0 := (Int.ediv_neg_of_neg_of_pos · (pow2_pos s))
  have hcast : pow2 (n - 1) = 2 ^ (n - 1) := by simp [pow2]
  rw [rndShiftRightArithmetic, ← guard_round]
  exact BitVec.toInt_ofInt_eq_self (NeZero.pos n) (by omega) (by omega)

end RightShifts

/-! ## Lanes of one register without a flag -/

theorem ph1Plain_eq_halves_quiet {f g : BitVec 16 → BitVec 16} (h : ∀ a, f a = g a) (x : Word) :
    ph1Plain f x = (halves (quiet g) x x).1 := by
  simp only [ph1Plain, halves, quiet, joinPh, phl, phr, h]

theorem qb1Plain_eq_bytes_quiet {f g : BitVec 8 → BitVec 8} (h : ∀ a, f a = g a) (x : Word) :
    qb1Plain f x = (bytes (quiet g) x x).1 := by
  simp only [qb1Plain, bytes, quiet, joinQb, qb0, qb1, qb2, qb3, h]

/-! ## Shift amounts taken from a register (30_encoding.md R103) -/

theorem toNat_extractLsb'_eq_amount (v : Word) (bits : Nat) : (v.extractLsb' 0 bits).toNat = amount v bits :=
  BitVec.extractLsb'_toNat 0 bits v

theorem amount_lt (v : Word) (bits : Nat) : amount v bits < 2 ^ bits := Nat.mod_lt _ (Nat.two_pow_pos bits)

end Sys2Proof.Proofs

open Sys2Proof Sys2Proof.Machine Sys2Proof.Claims Sys2Proof.Proofs

/-- Settles O37: the discarded bits, as a lane, are 0 or -1 exactly if they are all equal, and exactly if the product fits. -/
theorem halfwordLeftShiftFlagIsTheDiscardTest : Obligations.HalfwordLeftShiftFlagIsTheDiscardTest := by
  intro a s hs p mixed
  have hpow : pow2 (16 - 1) = 32768 := by decide
  have hmixed : mixed = discardMixed s a := by
    by_cases h : s = 0
    · subst h
      exact (discardMixed_zero a).symm
    · exact if_neg h
  have hrange : mixed = true ↔ p < -32768 ∨ 32767 < p := by
    have hout : mixed = outS 16 p := hmixed.trans (discardMixed_eq_outS a hs)
    rw [hout, outS, hpow, ← Bool.decide_or, decide_eq_true_iff]
    omega
  have hclamp : sat16ShiftLeft s a = (if mixed then (if a.getLsbD 15 then 0x8000#16 else 0x7FFF#16) else a <<< s, mixed) := by
    rw [hmixed]
    exact satS_mul_pow2 hs a
  have hsat : sat16ShiftLeft s a = if 32768 ≤ p then (BitVec.intMax 16, true)
      else if p < -32768 then (BitVec.intMin 16, true) else (BitVec.ofInt 16 p, false) := by
    rw [← hpow]
    rfl
  refine ⟨?_, ?_, hrange, hclamp, fun h => ?_, fun h => ?_, fun hlow hhigh => ?_⟩
  · rw [hmixed]
    exact shift16Left_eq_printed hs a
  · rw [hmixed]
    exact discardMixed_iff a hs
  · rw [hsat, if_pos (by omega)]
    rfl
  · rw [hsat, if_neg (by omega), if_pos h]
    rfl
  · rw [hsat, if_neg (by omega), if_neg (by omega)]

/-- Settles O35: the shifted bits, and the quotient the shift is as an integer. -/
theorem arithmeticShiftIsFloorDivision : Obligations.ArithmeticShiftIsFloorDivision :=
  ⟨fun a s _ => ⟨fun _ hk => getLsbD_sshiftRight_of_lt a s hk, toInt_sshiftRight_eq_ediv a s⟩,
   fun a s _ => ⟨fun _ hk => getLsbD_sshiftRight_of_lt a s hk, toInt_sshiftRight_eq_ediv a s⟩⟩

/-- Settles O36: the guard bit of a shift by 0 is 0, so the byte form, which then adds nothing, has the same result. -/
theorem roundingShiftIsPrintedAndClosedForm : Obligations.RoundingShiftIsPrintedAndClosedForm := by
  refine ⟨fun a s _ => ⟨?_, toInt_rndShiftRightArithmetic s a⟩,
    fun a s _ => ⟨rndShiftRightArithmetic_eq_printed s a, toInt_rndShiftRightArithmetic s a⟩,
    fun a s _ => ⟨rndShiftRightArithmetic_eq_printed s a, toInt_rndShiftRightArithmetic s a⟩⟩
  by_cases h : s = 0
  · rw [h, if_pos rfl, BitVec.extractLsb'_append_eq_left]
    exact BitVec.ofInt_toInt
  · rw [if_neg h]
    exact rndShiftRightArithmetic_eq_printed s a

/-- Settles O32: a left shift is the product by 2^s cut to the lane, and the discard test tells whether the product fits. -/
theorem leftShiftResults : Obligations.LeftShiftResults := by
  refine ⟨fun s rt rs sa =>
    ⟨fun hsa h => show execShllQb rt rs sa s = _ from alu2F_of_enabled h (qb1Lanes_eq_bytes_lane (shift8Left_eq_printed hsa) _),
     fun hsa h => show execShllPh rt rs sa s = _ from alu2F_of_enabled h (ph1_eq_halves_lane (shift16Left_eq_printed hsa) _),
     fun hsa h => show execShllSPh rt rs sa s = _ from alu2F_of_enabled h (ph1_eq_halves_lane (sat16ShiftLeft_eq_printed hsa) _),
     fun hsa h => show execShllSW rt rs sa s = _ from alu2F_of_enabled h (sat32ShiftLeft_eq_printed hsa _)⟩, fun s rd rt rs => ?_⟩
  have hsa (bits : Nat) : amount (s.readGpr rs) bits < 2 ^ bits := amount_lt _ bits
  simp only [toNat_extractLsb'_eq_amount]
  exact
    ⟨fun h => show execShllvQb rd rt rs s = _ from alu3F_of_enabled h (qb1Lanes_eq_bytes_lane (shift8Left_eq_printed (hsa 3)) _),
     fun h => show execShllvPh rd rt rs s = _ from alu3F_of_enabled h (ph1_eq_halves_lane (shift16Left_eq_printed (hsa 4)) _),
     fun h => show execShllvSPh rd rt rs s = _ from alu3F_of_enabled h (ph1_eq_halves_lane (sat16ShiftLeft_eq_printed (hsa 4)) _),
     fun h => show execShllvSW rd rt rs s = _ from alu3F_of_enabled h (sat32ShiftLeft_eq_printed (hsa 5) _)⟩

/-- Settles O33: a right shift is the floor of the quotient by 2^s, of the unsigned lane or of the signed one. -/
theorem rightShiftResults : Obligations.RightShiftResults := by
  refine ⟨fun s rt rs sa =>
    ⟨fun _ h => show execShrlQb rt rs sa s = _ from
      alu2_of_enabled h (qb1Plain_eq_bytes_quiet (shiftRightLogical_eq_quotientU sa) _),
     fun _ h => show execShrlPh rt rs sa s = _ from
      alu2_of_enabled h (ph1Plain_eq_halves_quiet (shiftRightLogical_eq_quotientU sa) _),
     fun _ h => show execShraQb rt rs sa s = _ from
      alu2_of_enabled h (qb1Plain_eq_bytes_quiet (shiftRightArithmetic_eq_quotientS sa) _),
     fun _ h => show execShraPh rt rs sa s = _ from
      alu2_of_enabled h (ph1Plain_eq_halves_quiet (shiftRightArithmetic_eq_quotientS sa) _)⟩, fun s rd rt rs => ?_⟩
  simp only [toNat_extractLsb'_eq_amount]
  exact
    ⟨fun h => show execShrlvQb rd rt rs s = _ from
      alu3_of_enabled h (qb1Plain_eq_bytes_quiet (shiftRightLogical_eq_quotientU _) _),
     fun h => show execShrlvPh rd rt rs s = _ from
      alu3_of_enabled h (ph1Plain_eq_halves_quiet (shiftRightLogical_eq_quotientU _) _),
     fun h => show execShravQb rd rt rs s = _ from
      alu3_of_enabled h (qb1Plain_eq_bytes_quiet (shiftRightArithmetic_eq_quotientS _) _),
     fun h => show execShravPh rd rt rs s = _ from
      alu3_of_enabled h (ph1Plain_eq_halves_quiet (shiftRightArithmetic_eq_quotientS _) _)⟩

/-- Settles O34: the rounded quotient is the shift with a guard bit, 1 added there. -/
theorem roundingRightShiftResults : Obligations.RoundingRightShiftResults := by
  refine ⟨fun s rt rs sa =>
    ⟨fun _ h => show execShraRQb rt rs sa s = _ from
      alu2_of_enabled h (qb1Plain_eq_bytes_quiet (rndShiftRightArithmetic_eq_printed sa) _),
     fun _ h => show execShraRPh rt rs sa s = _ from
      alu2_of_enabled h (ph1Plain_eq_halves_quiet (rndShiftRightArithmetic_eq_printed sa) _),
     fun _ h => show execShraRW rt rs sa s = _ from
      alu2_of_enabled h (rndShiftRightArithmetic_eq_printed sa _)⟩, fun s rd rt rs => ?_⟩
  simp only [toNat_extractLsb'_eq_amount]
  exact
    ⟨fun h => show execShravRQb rd rt rs s = _ from
      alu3_of_enabled h (qb1Plain_eq_bytes_quiet (rndShiftRightArithmetic_eq_printed _) _),
     fun h => show execShravRPh rd rt rs s = _ from
      alu3_of_enabled h (ph1Plain_eq_halves_quiet (rndShiftRightArithmetic_eq_printed _) _),
     fun h => show execShravRW rd rt rs s = _ from alu3_of_enabled h (rndShiftRightArithmetic_eq_printed _ _)⟩

end

section
/-! SUPPORT. The multiplies that write a GPR and leave ac0 free (43_multiply_gpr.md R240 to R251): the next state of that shape, the
printed products as exact integers cut to their width, and the statements about them. -/

namespace Sys2Proof.Proofs

open Sys2Proof.Machine Sys2Proof.Claims

/-! ## The shape of a multiply that writes a GPR (R240) -/

/-- The two draws into ac0, put after the advance of pc. -/
theorem advance_clobberAc0 (s : State) :
    s.clobberAc0.advance =
      { s.advance with hi := s.hi.set 0 (Config.freeWord s.draws), lo := s.lo.set 0 (Config.freeWord (s.draws + 1)),
                       draws := s.draws + 2 } := rfl

/-- What an enabled multiply answers, with the two draws that ac0 holds (R240(b), (d)). -/
theorem mulGpr_eq_of_enabled {s : State} {rev : Revision} {rd rs rt : Reg} {f : Word → Word → Flagged 32} (h : Enabled s rev) :
    s.mulGpr rev rd rs rt f =
      .next { toGprFlag s 21 rd (f (s.readGpr rs) (s.readGpr rt)) with
                hi := s.hi.set 0 (Config.freeWord s.draws), lo := s.lo.set 0 (Config.freeWord (s.draws + 1)),
                draws := s.draws + 2 } := by
  refine State.mulGpr_eq_next.2 ⟨checkDSP_of_enabled h, ?_⟩
  rw [advance_clobberAc0, advance_writeGpr_flagIf]
  simp only [State.hi_writeGpr, State.hi_flagIf, State.lo_writeGpr, State.lo_flagIf, State.draws_writeGpr, State.draws_flagIf]

theorem mulGpr_of_enabled {s : State} {rev : Revision} {rd rs rt : Reg} {f : Word → Word → Flagged 32} {v : Word × Bool}
    (h : Enabled s rev) (hv : f (s.readGpr rs) (s.readGpr rt) = v) :
    ∃ t, s.mulGpr rev rd rs rt f = .next t ∧ ToGprFreeAc0 s rd v t :=
  ⟨_, mulGpr_eq_of_enabled h, _, _, by rw [hv]⟩

/-! ## The interim products as integers -/

/-- The low bits of an integer cut to more bits. -/
theorem extractLsb'_zero_ofInt_of_le {w n : Nat} (h : n ≤ w) (x : Int) :
    (BitVec.ofInt w x).extractLsb' 0 n = BitVec.ofInt n x := by
  rw [extractLsb'_ofInt (by omega)]
  exact congrArg (BitVec.ofInt n) (Int.ediv_one x)

section Products

variable {n k : Nat}

theorem signExtend_mul_eq_ofInt (m : Nat) (a b : BitVec n) :
    a.signExtend m * b.signExtend m = BitVec.ofInt m (a.toInt * b.toInt) :=
  (BitVec.ofInt_mul a.toInt b.toInt).symm

theorem setWidth_mul_eq_ofInt (m : Nat) (a : BitVec n) (b : BitVec k) :
    a.setWidth m * b.setWidth m = BitVec.ofInt m (uint a * uint b) := by
  rw [BitVec.ofInt_mul, setWidth_eq_ofInt, setWidth_eq_ofInt]

/-- A product shifted left by 1 is doubled, whatever is then added to it. -/
theorem doubled_product_eq_ofInt (m : Nat) (inc : Int) (a b : BitVec n) :
    ((a.signExtend m * b.signExtend m) <<< 1) + BitVec.ofInt m inc = BitVec.ofInt m (2 * (a.toInt * b.toInt) + inc) := by
  have htwo : pow2 1 = 2 := rfl
  rw [signExtend_mul_eq_ofInt, BitVec.shiftLeft_eq_mul_twoPow, ← ofInt_pow2, ← BitVec.ofInt_mul, ← BitVec.ofInt_add, htwo,
    Int.mul_comm _ 2]

theorem uint_mul_range (a : BitVec n) (b : BitVec k) : 0 ≤ uint a * uint b ∧ uint a * uint b < pow2 (n + k) := by
  obtain ⟨ha, halt⟩ := uint_range a
  obtain ⟨hb, hblt⟩ := uint_range b
  rw [pow2_add]
  exact ⟨Int.mul_nonneg ha hb, mul_lt_mul'' halt hblt ha hb⟩

end Products

/-- The product of two signed halfwords fits 32 bits. -/
theorem toInt_signExtend_mul (a b : Half) : (a.signExtend 32 * b.signExtend 32).toInt = mulI a b := by
  have hlow := BitVec.le_toInt_mul_toInt (x := a) (y := b)
  have hhigh := BitVec.toInt_mul_toInt_le (x := a) (y := b)
  rw [signExtend_mul_eq_ofInt, mulI]
  exact BitVec.toInt_ofInt_eq_self (by decide) (by omega) (by omega)

/-! ## The lane functions -/

/-- The high byte of the 24-bit product is 0 exactly if the product is an unsigned halfword (R251). -/
theorem mulU8U16_eq_printed (a : Byte) (b : Half) : mulU8U16 a b = printedMulU8U16 a b := by
  obtain ⟨hlow, hhigh⟩ := uint_mul_range a b
  have hpow : pow2 (8 + 16) = 16777216 := rfl
  have hhalf : pow2 16 = 65536 := rfl
  have hfits : (BitVec.ofInt 24 (uint a * uint b)).extractLsb' 16 8 = 0#8 ↔ ¬ pow2 16 ≤ uint a * uint b := by
    rw [extractLsb'_ofInt (by decide), ← BitVec.toNat_inj, BitVec.toNat_ofInt, BitVec.toNat_zero, hhalf]
    omega
  have hnonneg : ¬ uint a * uint b < 0 := by omega
  rw [mulU8U16, satU, printedMulU8U16, setWidth_mul_eq_ofInt, if_neg hnonneg, if_congr hfits rfl rfl, ite_not,
    extractLsb'_zero_ofInt_of_le (by decide)]
  rfl

/-- The whole doubled product, with one pair saturated (R244). -/
theorem multiplyQ15Q15_eq_printed (a b : Half) : multiplyQ15Q15 a b = printedQ15 0x7FFFFFFF#32 0#32 a b := by
  have hdouble := doubled_product_eq_ofInt 32 0 a b
  rw [Int.add_zero] at hdouble
  rw [multiplyQ15Q15, printedQ15, ← hdouble]
  rfl

/-- The high half of a doubled Q15 product, with any increment (R243, R248). -/
theorem printedQ15High_ofInt (inc : Int) (a b : Half) :
    printedQ15High (BitVec.ofInt 32 inc) a b =
      if a = 0x8000#16 ∧ b = 0x8000#16 then (0x7FFF#16, true)
      else (phl (BitVec.ofInt 32 (2 * (a.toInt * b.toInt) + inc)), false) := by
  rw [printedQ15High, printedQ15, doubled_product_eq_ofInt]
  split <;> rfl

theorem sat16MultiplyQ15Q15_eq_printed (a b : Half) : sat16MultiplyQ15Q15 a b = printedQ15High 0#32 a b := by
  have hhigh := printedQ15High_ofInt 0 a b
  rw [Int.add_zero] at hhigh
  exact hhigh.symm

theorem rndQ15MultiplyQ15Q15_eq_printed (a b : Half) : rndQ15MultiplyQ15Q15 a b = printedQ15High 0x8000#32 a b :=
  (printedQ15High_ofInt 0x8000 a b).symm

/-- Bits [63:32] of a doubled Q31 product, with any increment (R249, R250). -/
theorem multiplyQ31High_eq_printed {inc : Int} {c : DWord} (hinc : BitVec.ofInt 64 inc = c) (a b : Word) :
    multiplyQ31High inc a b =
      ((printedQ31 0x7FFFFFFF00000000#64 c a b).1.extractLsb' 32 32, (printedQ31 0x7FFFFFFF00000000#64 c a b).2) := by
  rw [multiplyQ31High, printedQ31, ← hinc, doubled_product_eq_ofInt]
  split <;> rfl

/-- The printed range tests are those of the exact product, and both forms cut the same product (R246, R247). -/
theorem printedMulI16_eq (sat : Bool) (a b : Half) :
    printedMulI16 sat a b = if sat then satS 16 (mulI a b) else wrapS 16 (mulI a b) := by
  have hcut : (a.signExtend 32 * b.signExtend 32).extractLsb' 0 16 = BitVec.ofInt 16 (mulI a b) := by
    rw [signExtend_mul_eq_ofInt, extractLsb'_zero_ofInt_of_le (by decide), mulI]
  have hpow : pow2 15 = 32768 := rfl
  have hover : 0x7FFF < mulI a b ↔ pow2 15 ≤ mulI a b := by omega
  have hunder : mulI a b < -0x8000 ↔ mulI a b < -pow2 15 := by omega
  simp only [printedMulI16, toInt_signExtend_mul, hcut, hover, hunder]
  cases sat with
  | true => rfl
  | false =>
    rw [wrapS, outS]
    by_cases h : pow2 15 ≤ mulI a b
    · simp [h]
    · by_cases h' : mulI a b < -pow2 15 <;> simp [h, h']

theorem wrapS_mulI_eq_printed (a b : Half) : wrapS 16 (mulI a b) = printedMulI16 false a b := (printedMulI16_eq false a b).symm

theorem satS_mulI_eq_printed (a b : Half) : satS 16 (mulI a b) = printedMulI16 true a b := (printedMulI16_eq true a b).symm

end Sys2Proof.Proofs

open Sys2Proof Sys2Proof.Machine Sys2Proof.Claims Sys2Proof.Proofs

/-- Settles O38: each 24-bit product is the exact one, and its high byte tells whether it fits a halfword. -/
theorem unsignedByteByHalfwordProducts : Obligations.UnsignedByteByHalfwordProducts :=
  fun s rd rs rt =>
    ⟨fun h => show ∃ t, execMuleuSPhQbl rd rs rt s = .next t ∧ _ from
      mulGpr_of_enabled h (by simp only [mulU8U16_eq_printed]; rfl),
     fun h => show ∃ t, execMuleuSPhQbr rd rs rt s = .next t ∧ _ from
      mulGpr_of_enabled h (by simp only [mulU8U16_eq_printed]; rfl)⟩

/-- Settles O39: the shifted product is the doubled one, rounded by an increment or not, and one pair saturates. -/
theorem fractionalHalfwordProducts : Obligations.FractionalHalfwordProducts :=
  fun s rd rs rt =>
    ⟨fun h => mulGpr_of_enabled h (ph2_eq_halves rndQ15MultiplyQ15Q15_eq_printed _ _),
     fun h => mulGpr_of_enabled h (ph2_eq_halves sat16MultiplyQ15Q15_eq_printed _ _),
     fun h => show ∃ t, execMuleqSWPhl rd rs rt s = .next t ∧ _ from mulGpr_of_enabled h (multiplyQ15Q15_eq_printed _ _),
     fun h => show ∃ t, execMuleqSWPhr rd rs rt s = .next t ∧ _ from mulGpr_of_enabled h (multiplyQ15Q15_eq_printed _ _)⟩

/-- Settles O40: the signed halfword product fits 32 bits, so its range tests are exact; the Q31 product is doubled in 64 bits. -/
theorem integerHalfwordAndQ31WordProducts : Obligations.IntegerHalfwordAndQ31WordProducts :=
  fun _ _ _ _ =>
    ⟨fun h => mulGpr_of_enabled h (ph2_eq_halves wrapS_mulI_eq_printed _ _),
     fun h => mulGpr_of_enabled h (ph2_eq_halves satS_mulI_eq_printed _ _),
     fun h => mulGpr_of_enabled h (multiplyQ31High_eq_printed (BitVec.ofInt_ofNat 64 0) _ _),
     fun h => mulGpr_of_enabled h (multiplyQ31High_eq_printed (BitVec.ofInt_ofNat 64 0x80000000) _ _)⟩

end

section
/-! SUPPORT. The multiplies that write an accumulator (44_multiply_acc.md R260 to R289): the next states of that shape, the printed
sums of products as exact integers, the three accumulate clamps, and the statements about them. -/

namespace Sys2Proof.Proofs

open Sys2Proof.Machine Sys2Proof.Claims

/-! ## The shape of a multiply that writes an accumulator (R260) -/

theorem advance_writeAcc (s : State) (a : Acc) (v : DWord) : (s.writeAcc a v).advance = toAcc s a v := rfl

theorem flagIf_eq_sticky (s : State) (bit : Nat) (b : Bool) :
    s.flagIf bit b = { s with dspControl := sticky s.dspControl bit b } := by
  rw [← dspControl_flagIf_eq_sticky, State.flagIf]
  split <;> rfl

theorem advance_writeAcc_flagIf (s : State) (a : Acc) (v : DWord × Bool) :
    ((s.flagIf (16 + a.val) v.2).writeAcc a v.1).advance = toAccFlag s a v := by
  rw [advance_writeAcc, flagIf_eq_sticky]
  rfl

theorem advance_setPending_writeAcc (s : State) (a : Acc) (v : DWord) (b : Bool) :
    ((s.writeAcc a v).setPending a b).advance = { toAcc s a v with hiloPending := if a = 0 then b else s.hiloPending } := by
  unfold State.setPending
  split <;> rfl

section Shapes

variable {s : State} {rev : Revision} {ac : Acc} {rs rt : Reg}

theorem mac_of_enabled {f : DWord → Word → Word → DWord} {v : DWord} (h : Enabled s rev)
    (hv : f (s.acc ac) (s.readGpr rs) (s.readGpr rt) = v) : s.mac rev ac rs rt f = .next (toAcc s ac v) :=
  State.mac_eq_next.2 ⟨checkDSP_of_enabled h, by rw [hv, advance_writeAcc]⟩

theorem macF_of_enabled {f : DWord → Word → Word → Flagged 64} {v : DWord × Bool} (h : Enabled s rev)
    (hv : f (s.acc ac) (s.readGpr rs) (s.readGpr rt) = v) : s.macF rev ac rs rt f = .next (toAccFlag s ac v) :=
  State.macF_eq_next.2 ⟨checkDSP_of_enabled h, by rw [hv, advance_writeAcc_flagIf]⟩

/-- MULT and MULTU: the accumulator is written, and the result in ac0 is pending (R288, R289). -/
theorem mulAcc_of_enabled {p v : DWord} (h : Enabled s rev) (hv : p = v) :
    s.guarded rev ((s.writeAcc ac p).setPending ac true).retire =
      .next { toAcc s ac v with hiloPending := if ac = 0 then true else s.hiloPending } := by
  rw [guarded_of_enabled h, State.retire, advance_setPending_writeAcc, hv]

end Shapes

/-! ## The sums of exact products (R262 to R267, R283) -/

/-- An integer in the signed range of n + 1 bits, cut to those bits and extended again. -/
theorem signExtend_ofInt {n : Nat} (m : Nat) {x : Int} (hlow : -pow2 n ≤ x) (hhigh : x < pow2 n) :
    (BitVec.ofInt (n + 1) x).signExtend m = BitVec.ofInt m x := by
  rw [pow2, Int.natCast_pow] at hlow hhigh
  rw [BitVec.signExtend, BitVec.toInt_ofInt_eq_self n.succ_pos hlow hhigh]

section Sums

variable {n : Nat} (a b : BitVec n)

/-- A sum of two signed numbers is exact in one bit more. -/
theorem signExtend_signExtend_add (m : Nat) :
    (a.signExtend (n + 1) + b.signExtend (n + 1)).signExtend m = BitVec.ofInt m (a.toInt + b.toInt) := by
  obtain ⟨hlow, hhigh⟩ := toInt_add_range a b
  rw [signExtend_add_eq_ofInt, signExtend_ofInt m hlow hhigh]

/-- A difference of two signed numbers is exact in one bit more. -/
theorem signExtend_signExtend_sub (m : Nat) :
    (a.signExtend (n + 1) - b.signExtend (n + 1)).signExtend m = BitVec.ofInt m (a.toInt - b.toInt) := by
  obtain ⟨hlow, hhigh⟩ := toInt_sub_range a b
  rw [signExtend_sub_eq_ofInt, signExtend_ofInt m hlow hhigh]

end Sums

/-- The product of two unsigned bytes fits 16 bits. -/
theorem setWidth_setWidth_mul (m : Nat) (a b : Byte) :
    (a.setWidth 16 * b.setWidth 16).setWidth m = BitVec.ofInt m (mulU a b) := by
  obtain ⟨hlow, hhigh⟩ := uint_mul_range a b
  have hpow : pow2 (8 + 8) = 65536 := rfl
  have hfits : uint (BitVec.ofInt 16 (uint a * uint b)) = uint a * uint b := by
    rw [uint, BitVec.toNat_ofInt]
    omega
  rw [setWidth_eq_ofInt, setWidth_mul_eq_ofInt, hfits, mulU]

theorem dotU_eq_ofInt (a b c d : Byte) : dotU a b c d = BitVec.ofInt 64 (mulU a b + mulU c d) := by
  rw [dotU, setWidth_setWidth_mul, setWidth_setWidth_mul, BitVec.ofInt_add]

theorem dotS_eq_ofInt (a b c d : Half) : dotS a b c d = BitVec.ofInt 64 (mulI a b + mulI c d) := by
  rw [dotS, signExtend_signExtend_add, toInt_signExtend_mul, toInt_signExtend_mul]

/-- The difference of MULSA (R283). -/
theorem signExtend_sub_products (a b c d : Half) :
    ((a.signExtend 32 * b.signExtend 32).signExtend 33 - (c.signExtend 32 * d.signExtend 32).signExtend 33).signExtend 64 =
      BitVec.ofInt 64 (mulI a b - mulI c d) := by
  rw [signExtend_signExtend_sub, toInt_signExtend_mul, toInt_signExtend_mul]

/-! ## The fractional products (R261) -/

/-- The sum of two saturated Q15 products is that of the model's products. -/
theorem dotQ_eq (a b c d : Half) :
    dotQ a b c d =
      ((multiplyQ15Q15 a b).1.signExtend 64 + (multiplyQ15Q15 c d).1.signExtend 64,
        (multiplyQ15Q15 a b).2 || (multiplyQ15Q15 c d).2) := by
  rw [dotQ, multiplyQ15Q15_eq_printed, multiplyQ15Q15_eq_printed]

/-- The doubled Q31 product, with one pair saturated (R261(b)). -/
theorem multiplyQ31Q31_eq_printed (a b : Word) : multiplyQ31Q31 a b = printedQ31 0x7FFFFFFFFFFFFFFF#64 0#64 a b := by
  have hdouble := doubled_product_eq_ofInt 64 0 a b
  rw [Int.add_zero] at hdouble
  rw [multiplyQ31Q31, printedQ31, ← hdouble]
  rfl

/-! ## The accumulate clamps (R261(d), (e), (f)) -/

/-- Bits 32 and 31 of the sum decide, and the 32-bit result is extended (R261(d)). -/
theorem sat32AccumulateQ31_eq_printed (c : DWord) (a : Word) :
    ((sat32AccumulateQ31 c a).1.signExtend 64, (sat32AccumulateQ31 c a).2) = printedSat32Acc c a := by
  unfold sat32AccumulateQ31 printedSat32Acc
  dsimp only
  split
  · rfl
  · split <;> rfl

/-- Bit 63 of an accumulator is its sign. -/
theorem signBit_eq_neg (c : DWord) : c.getLsbD 63 = decide (c.toInt < 0) := by
  rw [← BitVec.msb_eq_toInt, BitVec.msb_eq_getLsbD_last]

/-- Bits [62:31] of an accumulator are the low word of its quotient by 2^31. -/
theorem toNat_bits62to31 (c : DWord) : ((c.extractLsb' 31 32).toNat : Int) = c.toInt / pow2 31 % pow2 32 := by
  have hfield : c.extractLsb' 31 32 = BitVec.ofInt 32 (c.toInt / pow2 31) := by
    rw [← extractLsb'_ofInt (w := 64) (by decide), BitVec.ofInt_toInt]
  rw [hfield, BitVec.toNat_ofInt]
  exact Int.toNat_of_nonneg (Int.emod_nonneg _ (pow2_pos 32).ne')

/-- The test above the Q31 range: the sign is 0 and bits [62:31] are not all 0 (R261(e)). -/
theorem satAcc_over_iff (c : DWord) : c.getLsbD 63 = false ∧ c.extractLsb' 31 32 ≠ 0#32 ↔ pow2 31 ≤ c.toInt := by
  have hhigh := BitVec.toInt_lt (x := c)
  have hfield := toNat_bits62to31 c
  have hpow31 : pow2 31 = 2147483648 := rfl
  have hpow32 : pow2 32 = 4294967296 := rfl
  rw [hpow31, hpow32] at hfield
  rw [signBit_eq_neg, decide_eq_false_iff_not, ne_eq, ← BitVec.toNat_inj, BitVec.toNat_ofNat]
  omega

/-- The test below the Q31 range: the sign is 1 and bits [62:31] are not all 1 (R261(e)). -/
theorem satAcc_under_iff (c : DWord) :
    c.getLsbD 63 = true ∧ c.extractLsb' 31 32 ≠ 0xFFFFFFFF#32 ↔ c.toInt < -pow2 31 := by
  have hlow := BitVec.le_toInt c
  have hfield := toNat_bits62to31 c
  have hpow31 : pow2 31 = 2147483648 := rfl
  have hpow32 : pow2 32 = 4294967296 := rfl
  rw [hpow31, hpow32] at hfield
  rw [signBit_eq_neg, decide_eq_true_iff, ne_eq, ← BitVec.toNat_inj, BitVec.toNat_ofNat]
  omega

/-- The printed tests are those of the clamp to a signed word; between them the accumulator is its own low word, extended. -/
theorem satAccQ31_eq_printed (c : DWord) : satAccQ31 c = printedSatAcc c := by
  rw [satAccQ31, satS, printedSatAcc, if_congr (satAcc_over_iff c) rfl rfl, if_congr (satAcc_under_iff c) rfl rfl]
  by_cases hover : pow2 31 ≤ c.toInt
  · rw [if_pos hover, if_pos hover]
    rfl
  · by_cases hunder : c.toInt < -pow2 31
    · rw [if_neg hover, if_pos hunder, if_neg hover, if_pos hunder]
      rfl
    · have hfits := signExtend_ofInt 64 (Int.not_lt.1 hunder) (Int.not_le.1 hover)
      rw [if_neg hover, if_neg hunder, if_neg hover, if_neg hunder, hfits, BitVec.ofInt_toInt]

/-- The clamp to 64 bits is the one by the top two bits of a 65-bit interim result (R261(f)). -/
theorem printedSat64_eq_clampTop (t : BitVec 65) : printedSat64 t = clampTop t := rfl

theorem satS_add_eq_printedSat64 (c d : DWord) :
    satS 64 (c.toInt + d.toInt) = printedSat64 (c.signExtend 65 + d.signExtend 65) :=
  (satAddS_eq_printed c d).trans (printedSat64_eq_clampTop _).symm

theorem satS_sub_eq_printedSat64 (c d : DWord) :
    satS 64 (c.toInt - d.toInt) = printedSat64 (c.signExtend 65 - d.signExtend 65) :=
  (satSubS_eq_printed c d).trans (printedSat64_eq_clampTop _).symm

end Sys2Proof.Proofs

open Sys2Proof Sys2Proof.Machine Sys2Proof.Claims Sys2Proof.Proofs

/-- Settles O42: a product of bytes fits 16 bits and a sum of two halfword products 33, so each printed term is exact. -/
theorem integerDotProductResults : Obligations.IntegerDotProductResults :=
  fun s ac rs rt =>
    ⟨fun h => show execDpauHQbl ac rs rt s = _ from mac_of_enabled h (by rw [dotU_eq_ofInt]; rfl),
     fun h => show execDpauHQbr ac rs rt s = _ from mac_of_enabled h (by rw [dotU_eq_ofInt]; rfl),
     fun h => show execDpsuHQbl ac rs rt s = _ from mac_of_enabled h (by rw [dotU_eq_ofInt]; rfl),
     fun h => show execDpsuHQbr ac rs rt s = _ from mac_of_enabled h (by rw [dotU_eq_ofInt]; rfl),
     fun h => show execDpaWPh ac rs rt s = _ from mac_of_enabled h (by rw [dotS_eq_ofInt]; rfl),
     fun h => show execDpaxWPh ac rs rt s = _ from mac_of_enabled h (by rw [dotS_eq_ofInt]; rfl),
     fun h => show execDpsWPh ac rs rt s = _ from mac_of_enabled h (by rw [dotS_eq_ofInt]; rfl),
     fun h => show execDpsxWPh ac rs rt s = _ from mac_of_enabled h (by rw [dotS_eq_ofInt]; rfl),
     fun h => show execMulsaWPh ac rs rt s = _ from mac_of_enabled h (by rw [signExtend_sub_products]; rfl)⟩

/-- Settles O43: each printed sum is that of the two saturated products. -/
theorem fractionalDotProductResults : Obligations.FractionalDotProductResults :=
  fun s ac rs rt =>
    ⟨fun h => show execDpaqSWPh ac rs rt s = _ from macF_of_enabled h (by rw [dotQ_eq]; rfl),
     fun h => show execDpaqxSWPh ac rs rt s = _ from macF_of_enabled h (by rw [dotQ_eq]; rfl),
     fun h => show execDpsqSWPh ac rs rt s = _ from macF_of_enabled h (by rw [dotQ_eq]; rfl),
     fun h => show execDpsqxSWPh ac rs rt s = _ from macF_of_enabled h (by rw [dotQ_eq]; rfl),
     fun h => show execMulsaqSWPh ac rs rt s = _ from macF_of_enabled h (by simp only [← multiplyQ15Q15_eq_printed]; rfl)⟩

/-- Settles O44: the sum is clamped to a signed word by its sign and bits [62:31], or to 64 bits by the top two of 65. -/
theorem saturatingAccumulateResults : Obligations.SaturatingAccumulateResults :=
  fun s ac rs rt =>
    ⟨fun h => show execDpaqxSaWPh ac rs rt s = _ from macF_of_enabled h (by rw [dotQ_eq, ← satAccQ31_eq_printed]; rfl),
     fun h => show execDpsqxSaWPh ac rs rt s = _ from macF_of_enabled h (by rw [dotQ_eq, ← satAccQ31_eq_printed]; rfl),
     fun h => show execDpaqSaLW ac rs rt s = _ from
      macF_of_enabled h (by rw [← multiplyQ31Q31_eq_printed, ← satS_add_eq_printedSat64]),
     fun h => show execDpsqSaLW ac rs rt s = _ from
      macF_of_enabled h (by rw [← multiplyQ31Q31_eq_printed, ← satS_sub_eq_printedSat64])⟩

/-- Settles O45: one saturated product is accumulated; the clamp of MAQ_SA is the printed one, extended. -/
theorem singleProductAccumulateResults : Obligations.SingleProductAccumulateResults :=
  fun s ac rs rt =>
    ⟨fun h => show execMaqSWPhl ac rs rt s = _ from macF_of_enabled h (by rw [← multiplyQ15Q15_eq_printed]; rfl),
     fun h => show execMaqSWPhr ac rs rt s = _ from macF_of_enabled h (by rw [← multiplyQ15Q15_eq_printed]; rfl),
     fun h => show execMaqSaWPhl ac rs rt s = _ from
      macF_of_enabled h (by rw [← multiplyQ15Q15_eq_printed, ← sat32AccumulateQ31_eq_printed]; rfl),
     fun h => show execMaqSaWPhr ac rs rt s = _ from
      macF_of_enabled h (by rw [← multiplyQ15Q15_eq_printed, ← sat32AccumulateQ31_eq_printed]; rfl)⟩

/-- Settles O46: each extended product is the exact one in 64 bits, and MULT and MULTU leave it pending in ac0. -/
theorem wordMultiplyAccumulateResults : Obligations.WordMultiplyAccumulateResults :=
  fun s ac rs rt =>
    ⟨fun h => show execMadd ac rs rt s = _ from mac_of_enabled h (by rw [signExtend_mul_eq_ofInt]),
     fun h => show execMaddu ac rs rt s = _ from mac_of_enabled h (by rw [setWidth_mul_eq_ofInt]),
     fun h => show execMsub ac rs rt s = _ from mac_of_enabled h (by rw [signExtend_mul_eq_ofInt]),
     fun h => show execMsubu ac rs rt s = _ from mac_of_enabled h (by rw [setWidth_mul_eq_ofInt]),
     fun h => mulAcc_of_enabled h (signExtend_mul_eq_ofInt 64 _ _).symm,
     fun h => mulAcc_of_enabled h (setWidth_mul_eq_ofInt 64 _ _).symm⟩

end

section
/-! SUPPORT. The bit manipulations (45_bitmanip.md R311 to R316): the reversed halfword and the inserted field bit by bit, the three
answers of INSV, a lane repeated as a product, and the statements about them. -/

namespace Sys2Proof.Proofs

open Sys2Proof.Machine Sys2Proof.Claims

/-! ## BITREV (R311) -/

theorem getLsbD_reverseHalf (x : Word) {k : Nat} (hk : k < 32) :
    (reverseHalf x).getLsbD k = (decide (k < 16) && x.getLsbD (15 - k)) := by
  rw [reverseHalf, phr, BitVec.getLsbD_setWidth, BitVec.getLsbD_reverse, BitVec.getMsbD_eq_getLsbD,
    BitVec.getLsbD_extractLsb']
  have hlow : 16 - 1 - k < 16 := by omega
  simp [hk, hlow]

/-! ## INSV (R312) -/

/-- The mask form of R312 is the write of a field. -/
theorem insertField_eq_setField (x y : Word) (pos size : Nat) :
    insertField x y pos size = setField x pos (y.setWidth size) := by
  have hmask : BitVec.ofNat 32 (2 ^ size - 1) = (BitVec.allOnes size).setWidth 32 := by
    rw [← BitVec.toNat_allOnes, BitVec.ofNat_toNat]
  have hfield : y &&& (BitVec.allOnes size).setWidth 32 = (y.setWidth size).setWidth 32 := by
    refine BitVec.eq_of_getLsbD_eq fun k hk => ?_
    simp [hk, Bool.and_comm]
  rw [insertField, setField, hmask, ← BitVec.shiftLeft_and_distrib, hfield]

theorem getLsbD_insertField (x y : Word) (pos size : Nat) {k : Nat} (hk : k < 32) :
    (insertField x y pos size).getLsbD k = if pos ≤ k ∧ k < pos + size then y.getLsbD (k - pos) else x.getLsbD k := by
  rw [insertField_eq_setField, getLsbD_setField _ _ _ _ hk, BitVec.getLsbD_setWidth]
  split
  · next hin => rw [decide_eq_true (by omega), Bool.true_and]
  · rfl

/-- A write of a free value, then pc + 4: the register takes some word, and one free value is used. -/
theorem advance_writeGprFree (s : State) (r : Reg) :
    (s.writeGprFree r).advance = { toGpr s r (Config.freeWord s.draws) with draws := s.draws + 1 } := by
  unfold State.writeGprFree State.writeGpr toGpr
  split <;> rfl

section Insv

variable {s : State} {rt rs : Reg}

theorem exec_insv_of_size_eq_zero (h : Enabled s .rev1) (hsize : s.scount.toNat = 0) :
    exec (.insv rt rs) s = .refused (.unpredictableOperation "INSV") :=
  (guarded_of_enabled h _).trans (if_pos hsize)

theorem exec_insv_of_le (h : Enabled s .rev1) (hsize : s.scount.toNat ≠ 0) (hle : s.pos.toNat + s.scount.toNat ≤ 32) :
    exec (.insv rt rs) s =
      .next (toGpr s rt (insertField (s.readGpr rt) (s.readGpr rs) s.pos.toNat s.scount.toNat)) := by
  rw [← advance_writeGpr]
  exact (guarded_of_enabled h _).trans ((if_neg hsize).trans (if_neg (Nat.not_lt.2 hle)))

theorem exec_insv_of_gt (h : Enabled s .rev1) (hsize : s.scount.toNat ≠ 0) (hgt : 32 < s.pos.toNat + s.scount.toNat) :
    exec (.insv rt rs) s = .next { toGpr s rt (Config.freeWord s.draws) with draws := s.draws + 1 } := by
  rw [← advance_writeGprFree]
  exact (guarded_of_enabled h _).trans ((if_neg hsize).trans (if_pos hgt))

end Insv

/-! ## The replications (R313 to R316) -/

theorem toNat_append_eq_add {n m : Nat} (a : BitVec n) (b : BitVec m) :
    (a ++ b).toNat = a.toNat * 2 ^ m + b.toNat := by
  rw [BitVec.toNat_append, ← Nat.shiftLeft_add_eq_or_of_lt b.isLt, Nat.shiftLeft_eq]

theorem joinQb_self_eq_mul (b : Byte) : joinQb b b b b = b.setWidth 32 * 0x01010101#32 := by
  refine BitVec.eq_of_toNat_eq ?_
  have hlt := b.isLt
  rw [joinQb, toNat_append_eq_add, toNat_append_eq_add, toNat_append_eq_add, BitVec.toNat_mul, BitVec.toNat_setWidth]
  simp only [BitVec.toNat_ofNat, Nat.reducePow, Nat.reduceMod, Nat.mod_mul_mod]
  omega

/-- The immediate of REPL.QB in every byte (R313). -/
theorem joinQb_ofNat_self {imm : Nat} (h : imm < 256) :
    joinQb (BitVec.ofNat 8 imm) (BitVec.ofNat 8 imm) (BitVec.ofNat 8 imm) (BitVec.ofNat 8 imm) =
      BitVec.ofNat 32 (imm * 0x01010101) := by
  rw [joinQb_self_eq_mul, BitVec.setWidth_ofNat_of_le_of_lt (by decide) h, BitVec.ofNat_mul]

theorem joinPh_self_eq_mul (h : Half) : joinPh h h = h.setWidth 32 * 0x00010001#32 := by
  refine BitVec.eq_of_toNat_eq ?_
  have hlt := h.isLt
  rw [joinPh, toNat_append_eq_add, BitVec.toNat_mul, BitVec.toNat_setWidth]
  simp only [BitVec.toNat_ofNat, Nat.reducePow, Nat.reduceMod, Nat.mod_mul_mod]
  omega

/-- The low byte or halfword, widened, is the register masked. -/
theorem setWidth_extractLsb'_eq_and {n : Nat} {m : Word} (x : Word) (hm : place 0 (BitVec.allOnes n) = m) :
    (x.extractLsb' 0 n).setWidth 32 = x &&& m := by
  rw [← place_extract hm, place, BitVec.shiftLeft_zero]

end Sys2Proof.Proofs

open Sys2Proof Sys2Proof.Machine Sys2Proof.Claims Sys2Proof.Proofs

/-- Settles O47: the reversed halfword bit by bit, and the mask form of INSV as the write of a field, or a free value in rt. -/
theorem bitReverseAndInsertResults : Obligations.BitReverseAndInsertResults := by
  intro s rt rs h pos size
  exact ⟨⟨_, show execBitrev rt rs s = _ from alu2_of_enabled h rfl, fun _ => getLsbD_reverseHalf _⟩,
    fun hsize hle => ⟨_, exec_insv_of_le h hsize.ne' hle, fun _ => getLsbD_insertField _ _ _ _⟩,
    fun hsize hgt => ⟨_, _, exec_insv_of_gt h hsize.ne' hgt, rfl⟩⟩

/-- Settles O15: scount is the six-bit field, and size 0 is refused behind the access check. -/
theorem insvWithSizeZeroIsRefused : Obligations.InsvWithSizeZeroIsRefused :=
  fun _ _ _ h hsize => exec_insv_of_size_eq_zero h (congrArg BitVec.toNat hsize)

/-- Settles O48: a byte or halfword in every lane is its product by the word with a 1 at the foot of each lane. -/
theorem replicateResults : Obligations.ReplicateResults := by
  refine ⟨fun s rt imm himm h => ?_, fun s rt imm hlow hhigh h => ?_, fun s rt rs h => ⟨?_, ?_⟩⟩
  · rw [← joinQb_ofNat_self himm]
    exact guarded_writeGpr_of_enabled h
  · rw [signExtend_ofInt 16 hlow (Int.lt_add_one_of_le hhigh)]
    exact guarded_writeGpr_of_enabled h
  · change execReplvQb rt rs s = _
    exact alu2_of_enabled h <| (joinQb_self_eq_mul _).trans <|
      congrArg (· * _) (setWidth_extractLsb'_eq_and _ rfl)
  · change execReplvPh rt rs s = _
    exact alu2_of_enabled h <| (joinPh_self_eq_mul _).trans <|
      congrArg (· * _) (setWidth_extractLsb'_eq_and _ rfl)

end

section
/-! SUPPORT. The compares and picks (46_compare_pick.md R320 to R338): the condition bits and the write of ccond, the next states of the
three shapes of compare, the picked word bit by bit, and the statements about them. -/

namespace Sys2Proof.Proofs

open Sys2Proof.Machine Sys2Proof.Claims

/-! ## The condition bits (R320(c), (d)) -/

theorem condQb_eq_compareBytes {f g : Byte → Byte → Bool} (h : ∀ a b, f a b = g a b) (x y : Word) :
    condQb f x y = compareBytes g x y := by
  simp only [condQb, compareBytes, condBit, qb0, qb1, qb2, qb3, h]

theorem condPh_eq_compareHalves {f g : Half → Half → Bool} (h : ∀ a b, f a b = g a b) (x y : Word) :
    condPh f x y = compareHalves g x y := by
  simp only [condPh, compareHalves, condBit, phl, phr, h]

section Relations

variable {n : Nat} (a b : BitVec n)

theorem decide_eq_eq_beq : decide (a = b) = (a == b) := rfl

theorem decide_toNat_lt_eq_ult : decide (a.toNat < b.toNat) = a.ult b := rfl

/-- Unsigned, `a ≤ b` is `b < a` denied. -/
theorem decide_toNat_le_eq_not_ult : decide (a.toNat ≤ b.toNat) = !(b.ult a) := BitVec.ule_eq_not_ult a b

theorem decide_toInt_lt_eq_slt : decide (a.toInt < b.toInt) = a.slt b := rfl

/-- Signed, `a ≤ b` is `b < a` denied. -/
theorem decide_toInt_le_eq_not_slt : decide (a.toInt ≤ b.toInt) = !(b.slt a) := BitVec.sle_eq_not_slt

end Relations

/-! ## The write of ccond (10_state.md R39) -/

/-- The printed mask of bits 27:24. -/
theorem setField_ccond (d : Word) (v : BitVec 4) : setField d 24 v = withCcond d v := by
  have hmask : ~~~((BitVec.allOnes 4).setWidth 32 <<< 24) = 0xF0FFFFFF#32 := by decide
  rw [setField, withCcond, hmask]

theorem setCcond_eq (s : State) (v : BitVec 4) : s.setCcond v = { s with dspControl := withCcond s.dspControl v } := by
  rw [State.setCcond, setField_ccond]

theorem setCcondPh_eq (s : State) (v : BitVec 2) :
    s.setCcondPh v =
      { s with dspControl := withCcond s.dspControl (Config.freeBits2 s.draws ++ v), draws := s.draws + 1 } := by
  rw [State.setCcondPh, setCcond_eq, State.nextDraw]

/-! ## The shapes of a compare -/

section Compares

variable {s : State} {rev : Revision} {rd : Reg}

/-- CMPU: the bits go to ccond alone. -/
theorem guarded_setCcond_of_enabled {cc v : BitVec 4} (h : Enabled s rev) (hv : cc = v) :
    s.guarded rev (s.setCcond cc).retire =
      .next { s with pc := s.pc + 4#32, dspControl := withCcond s.dspControl v } := by
  rw [guarded_of_enabled h, hv, setCcond_eq, State.retire, State.advance]

/-- CMPGDU: the bits go to ccond and, over 28 zeros, to a register. -/
theorem guarded_setCcond_writeGpr_of_enabled {cc v : BitVec 4} (h : Enabled s rev) (hv : cc = v) :
    s.guarded rev ((s.setCcond cc).writeGpr rd (cc.setWidth 32)).retire =
      .next { toGpr s rd (v.setWidth 32) with dspControl := withCcond s.dspControl v } := by
  rw [guarded_of_enabled h, hv, State.retire, advance_writeGpr, setCcond_eq]
  rfl

/-- CMP: the bits go to ccond[25:24], and a draw to ccond[27:26]. -/
theorem guarded_setCcondPh_of_enabled {cc v : BitVec 2} (h : Enabled s rev) (hv : cc = v) :
    ∃ (u : BitVec 2) (t : State), s.guarded rev (s.setCcondPh cc).retire = .next t ∧
      t = { s with pc := s.pc + 4#32, draws := t.draws, dspControl := withCcond s.dspControl (u ++ v) } :=
  ⟨Config.freeBits2 s.draws, _, guarded_of_enabled h _, by rw [hv, setCcondPh_eq, State.advance]⟩

end Compares

/-! ## PICK (R333, R334) -/

theorem getLsbD_ccond (s : State) {j : Nat} (hj : j < 4) : s.ccond.getLsbD j = s.dspControl.getLsbD (24 + j) := by
  rw [State.ccond, BitVec.getLsbD_extractLsb', decide_eq_true hj, Bool.true_and]

/-- `v` is the lanes of `n` bits from lane `i` up, each picked of `x` where its condition bit is 1, of `y` elsewhere. -/
def PicksLanes (cc : BitVec 4) (x y : Word) (n i : Nat) {m : Nat} (v : BitVec m) : Prop :=
  ∀ k, k < m → v.getLsbD k = if cc.getLsbD (i + k / n) then x.getLsbD (i * n + k) else y.getLsbD (i * n + k)

section Lanes

variable {cc : BitVec 4} {x y : Word} {n m i : Nat}

theorem picksLanes_lane (cc : BitVec 4) (x y : Word) (n i : Nat) :
    PicksLanes cc x y n i (if cc.getLsbD i then x.extractLsb' (i * n) n else y.extractLsb' (i * n) n) := by
  intro k hk
  rw [Nat.div_eq_of_lt hk, Nat.add_zero]
  split <;> rw [BitVec.getLsbD_extractLsb', decide_eq_true hk, Bool.true_and]

theorem PicksLanes.append {upper : BitVec m} {lane : BitVec n} (hn : 0 < n) (hupper : PicksLanes cc x y n (i + 1) upper)
    (hlane : PicksLanes cc x y n i lane) : PicksLanes cc x y n i (upper ++ lane) := by
  intro k hk
  rw [BitVec.getLsbD_append]
  by_cases hlow : k < n
  · rw [if_pos hlow, hlane k hlow]
  · have hle : n ≤ k := Nat.le_of_not_lt hlow
    have hbit : (i + 1) * n + (k - n) = i * n + k := by rw [Nat.succ_mul]; omega
    have hcond : i + 1 + (k - n) / n = i + k / n := by rw [Nat.div_eq_sub_div hn hle]; omega
    rw [if_neg hlow, hupper (k - n) (by omega), hbit, hcond]

end Lanes

theorem picksLanes_pickBytes (cc : BitVec 4) (x y : Word) : PicksLanes cc x y 8 0 (pickBytes cc x y) :=
  have lane := picksLanes_lane cc x y 8
  (((lane 3).append (by decide) (lane 2)).append (by decide) (lane 1)).append (by decide) (lane 0)

theorem picksLanes_pickHalves (cc : BitVec 4) (x y : Word) : PicksLanes cc x y 16 0 (pickHalves cc x y) :=
  (picksLanes_lane cc x y 16 1).append (by decide) (picksLanes_lane cc x y 16 0)

/-- Lanes picked by ccond, from the lowest one up. -/
theorem PicksLanes.getLsbD_word {s : State} {x y v : Word} {n k : Nat} (h : PicksLanes s.ccond x y n 0 v) (hk : k < 32)
    (hcond : k / n < 4) :
    v.getLsbD k = if s.dspControl.getLsbD (24 + k / n) then x.getLsbD k else y.getLsbD k := by
  rw [h k hk, Nat.zero_add, Nat.zero_mul, Nat.zero_add, getLsbD_ccond s hcond]

end Sys2Proof.Proofs

open Sys2Proof Sys2Proof.Machine Sys2Proof.Claims Sys2Proof.Proofs

/-- Settles O49: a relation of the model is the printed one byte by byte, and its four bits go to ccond, a register, or both. -/
theorem unsignedByteCompareResults : Obligations.UnsignedByteCompareResults :=
  ⟨fun _ _ _ =>
    ⟨fun h => guarded_setCcond_of_enabled h (condQb_eq_compareBytes decide_eq_eq_beq _ _),
     fun h => guarded_setCcond_of_enabled h (condQb_eq_compareBytes decide_toNat_lt_eq_ult _ _),
     fun h => guarded_setCcond_of_enabled h (condQb_eq_compareBytes decide_toNat_le_eq_not_ult _ _)⟩,
   fun s rd rs rt =>
    ⟨fun h => guarded_setCcond_writeGpr_of_enabled h (condQb_eq_compareBytes decide_eq_eq_beq _ _),
     fun h => guarded_setCcond_writeGpr_of_enabled h (condQb_eq_compareBytes decide_toNat_lt_eq_ult _ _),
     fun h => guarded_setCcond_writeGpr_of_enabled h (condQb_eq_compareBytes decide_toNat_le_eq_not_ult _ _),
     fun h => show execCmpguEqQb rd rs rt s = _ from
      alu3_of_enabled h (congrArg (BitVec.setWidth 32) (condQb_eq_compareBytes decide_eq_eq_beq _ _)),
     fun h => show execCmpguLtQb rd rs rt s = _ from
      alu3_of_enabled h (congrArg (BitVec.setWidth 32) (condQb_eq_compareBytes decide_toNat_lt_eq_ult _ _)),
     fun h => show execCmpguLeQb rd rs rt s = _ from
      alu3_of_enabled h (congrArg (BitVec.setWidth 32) (condQb_eq_compareBytes decide_toNat_le_eq_not_ult _ _))⟩⟩

/-- Settles O50: bits 27:26 of DSPControl take the draw. -/
theorem signedHalfwordCompareResults : Obligations.SignedHalfwordCompareResults :=
  fun _ _ _ h =>
    ⟨guarded_setCcondPh_of_enabled h (condPh_eq_compareHalves decide_eq_eq_beq _ _),
     guarded_setCcondPh_of_enabled h (condPh_eq_compareHalves decide_toInt_lt_eq_slt _ _),
     guarded_setCcondPh_of_enabled h (condPh_eq_compareHalves decide_toInt_le_eq_not_slt _ _)⟩

/-- Settles O51: bit k is in lane k / 8 or k / 16, which one bit of ccond picks; PACKRL joins two halfwords in their places. -/
theorem pickAndPackResults : Obligations.PickAndPackResults :=
  fun s rd rs rt h =>
    ⟨⟨_, show execPickQb rd rs rt s = _ from alu3_of_enabled h rfl,
      fun _ hk => (picksLanes_pickBytes _ _ _).getLsbD_word hk (Nat.div_lt_of_lt_mul hk)⟩,
     ⟨_, show execPickPh rd rs rt s = _ from alu3_of_enabled h rfl,
      fun _ hk => (picksLanes_pickHalves _ _ _).getLsbD_word hk (by omega)⟩,
     show execPackrlPh rd rs rt s = _ from
      alu3_of_enabled h ((joinPh_eq_place _ _).trans (congrArg₂ _ (place_phr _) (place_phl _)))⟩

end

section
/-! SUPPORT. Access to the accumulators and DSPControl (47_acc_dspcontrol.md R350 to R385): the 65-bit shift of the extractions as an
integer, the bit-field extraction and the accumulator shift bit by bit, the moves, the mask of WRDSP and RDDSP, and the statements
about them. -/

namespace Sys2Proof.Proofs

open Sys2Proof.Machine Sys2Proof.Claims

/-! ## The extractions with a right shift (R351 to R359) -/

theorem extr_of_enabled {s : State} {rev : Revision} {rt : Reg} {r v : Word × Bool} (h : Enabled s rev) (hv : r = v) :
    s.extr rev rt r = .next (toGprFlag s 23 rt v) :=
  State.extr_eq_next.2 ⟨checkDSP_of_enabled h, by rw [hv, advance_writeGpr_flagIf]⟩

theorem printedShift65_eq_ofInt (c : DWord) (n : Nat) : printedShift65 c n = BitVec.ofInt 65 (shift65 c n) :=
  sshiftRight_append_guard c n

/-- The shifted value fits 65 bits, and 1 can be added to it: unshifted, its guard bit is 0. -/
theorem shift65_range (c : DWord) (n : Nat) : -pow2 64 ≤ shift65 c n ∧ shift65 c n + 1 < pow2 64 := by
  obtain ⟨hlow, hhigh⟩ := two_mul_toInt_range c
  have hpow : pow2 64 = pow2 63 * 2 := pow2_succ 63
  have habs := Int.natAbs_ediv_le_natAbs (c.toInt * 2) (pow2 n)
  have hneg : c.toInt * 2 < 0 → c.toInt * 2 / pow2 n < 0 := (Int.ediv_neg_of_neg_of_pos · (pow2_pos n))
  rw [shift65]
  omega

/-- The 33 bits above the guard bit are all zeros or all ones exactly if the value above it is a signed word (R359(b)). -/
theorem printedOvf33_ofInt {x : Int} (hlow : -pow2 64 ≤ x) (hhigh : x < pow2 64) :
    printedOvf33 (BitVec.ofInt 65 x) = ovf33 x := by
  have hpow31 : pow2 31 = 2147483648 := rfl
  have hpow32 : pow2 32 = 4294967296 := rfl
  have hpow64 : pow2 64 = 18446744073709551616 := rfl
  have hfits : (BitVec.ofInt 33 (x / pow2 32)).toInt = x / pow2 32 :=
    BitVec.toInt_ofInt_eq_self (by decide) (by rw [hpow32]; omega) (by rw [hpow32]; omega)
  have hzero : (0#33).toInt = 0 := rfl
  have hones : (0x1FFFFFFFF#33).toInt = -1 := rfl
  rw [printedOvf33, extractLsb'_ofInt (by decide), ovf33, outS, ← Bool.decide_or, decide_eq_decide, Ne, Ne,
    ← BitVec.toInt_inj, ← BitVec.toInt_inj, hfits, hzero, hones, hpow31, hpow32]
  omega

section Extractions

variable (c : DWord) (n : Nat)

/-- One added at the guard bit. -/
theorem ofInt_add_one (x : Int) : BitVec.ofInt 65 x + 1#65 = BitVec.ofInt 65 (x + 1) := (BitVec.ofInt_add x 1).symm

/-- Bits [32:1] drop the guard bit. -/
theorem extractLsb'_above_guard (x : Int) : (BitVec.ofInt 65 x).extractLsb' 1 32 = BitVec.ofInt 32 (x / 2) :=
  extractLsb'_ofInt (by decide) x

theorem printedOvf33_shift65 : printedOvf33 (BitVec.ofInt 65 (shift65 c n)) = ovf33 (shift65 c n) := by
  obtain ⟨hlow, hhigh⟩ := shift65_range c n
  exact printedOvf33_ofInt hlow (by omega)

theorem printedOvf33_shift65_add_one : printedOvf33 (BitVec.ofInt 65 (shift65 c n + 1)) = ovf33 (shift65 c n + 1) := by
  obtain ⟨hlow, hhigh⟩ := shift65_range c n
  exact printedOvf33_ofInt (by omega) hhigh

theorem extrW_eq_printed : extrW c n = printedExtr c n := by
  simp only [extrW, extrFlag, printedExtr, printedShift65_eq_ofInt, ofInt_add_one, extractLsb'_above_guard,
    printedOvf33_shift65, printedOvf33_shift65_add_one]

theorem extrRW_eq_printed : extrRW c n = printedExtrR c n := by
  simp only [extrRW, extrFlag, printedExtrR, printedShift65_eq_ofInt, ofInt_add_one, extractLsb'_above_guard,
    printedOvf33_shift65, printedOvf33_shift65_add_one]

/-- The clamp of EXTR_RS goes by bit 64, the sign of the rounded value (R353). -/
theorem extrRsW_eq_printed : extrRsW c n = printedExtrRS c n := by
  obtain ⟨hlow, hhigh⟩ := shift65_range c n
  have hsign : (BitVec.ofInt 65 (shift65 c n + 1)).getLsbD 64 = decide ((shift65 c n + 1) / 2 < 0) := by
    rw [topBit_ofInt_of_signed (by omega) hhigh, decide_eq_decide]
    omega
  simp only [extrRsW, extrFlag, printedExtrRS, satS_eq_ite, printedShift65_eq_ofInt, ofInt_add_one, extractLsb'_above_guard,
    printedOvf33_shift65, printedOvf33_shift65_add_one, hsign, decide_eq_true_eq]
  rfl

/-- The two signed comparisons are the clamp of the shifted value to a halfword (R354). -/
theorem extrSH_eq_printed : extrSH c n = printedExtrSH c n := by
  have hpow : pow2 15 = 32768 := rfl
  have hmax : (0x0000000000007FFF#64).toInt = 32767 := rfl
  have hmin : (0xFFFFFFFFFFFF8000#64).toInt = -32768 := rfl
  have hover : (0x0000000000007FFF#64).slt (c.sshiftRight n) = true ↔ pow2 15 ≤ c.toInt / pow2 n := by
    rw [BitVec.slt_iff_toInt_lt, toInt_sshiftRight_eq_ediv, hmax]
    omega
  have hunder : (c.sshiftRight n).slt 0xFFFFFFFFFFFF8000#64 = true ↔ c.toInt / pow2 n < -pow2 15 := by
    rw [BitVec.slt_iff_toInt_lt, toInt_sshiftRight_eq_ediv, hmin]
    omega
  simp only [extrSH, satS, printedExtrSH, hover, hunder]
  split
  · rfl
  · split
    · rfl
    · next hnotover hnotunder =>
      rw [signExtend_ofInt 32 (Int.not_lt.1 hnotunder) (Int.not_le.1 hnotover), sshiftRight_eq_ofInt,
        extractLsb'_zero_ofInt_of_le (by decide)]

end Extractions

/-! ## The write of pos and EFI (10_state.md R42, R45) -/

/-- The printed mask of bits 5:0. -/
theorem setField_pos (d : Word) (v : BitVec 6) : setField d 0 v = (d &&& 0xFFFFFFC0#32) ||| v.setWidth 32 := by
  have hmask : ~~~((BitVec.allOnes 6).setWidth 32 <<< 0) = 0xFFFFFFC0#32 := by decide
  rw [setField, hmask, BitVec.shiftLeft_zero]

/-- Clearing EFI, bit 14. -/
theorem setField_efi_zero (d : Word) : setField d 14 0#1 = d &&& 0xFFFFBFFF#32 := by
  have hmask : ~~~((BitVec.allOnes 1).setWidth 32 <<< 14) = 0xFFFFBFFF#32 := by decide
  rw [setField, hmask, BitVec.setWidth_zero, BitVec.zero_shiftLeft, BitVec.or_zero]

/-- Clearing EFI and writing pos, under one mask. -/
theorem setField_pos_setField_efi_zero (d : Word) (v : BitVec 6) :
    setField (setField d 14 0#1) 0 v = (d &&& 0xFFFFBFC0#32) ||| v.setWidth 32 := by
  have hmask : 0xFFFFBFFF#32 &&& 0xFFFFFFC0#32 = 0xFFFFBFC0#32 := by decide
  rw [setField_efi_zero, setField_pos, BitVec.and_assoc, hmask]

/-! ## The bit-field extractions (R360 to R366) -/

/-- The extracted field bit by bit, zero-extended (R360). -/
theorem getLsbD_extractBits (c : DWord) (pos size : Nat) {k : Nat} (hk : k < 32) :
    (extractBits c pos size).getLsbD k = (decide (k ≤ size) && c.getLsbD (pos - size + k)) := by
  rw [extractBits, BitVec.getLsbD_ofNat, Nat.testBit_mod_two_pow, Nat.testBit_div_two_pow, BitVec.testBit_toNat,
    decide_eq_true hk, Bool.true_and, Nat.add_comm k, decide_eq_decide.2 Nat.lt_succ_iff]

/-- The 6-bit pos less size + 1. -/
theorem pos_sub_eq_ofInt (p : BitVec 6) (size : Nat) :
    p - BitVec.ofNat 6 (size + 1) = BitVec.ofInt 6 ((p.toNat : Int) - (size + 1)) := by
  have hsize : BitVec.ofNat 6 (size + 1) = BitVec.ofInt 6 ((size : Int) + 1) := (BitVec.ofInt_natCast 6 (size + 1)).symm
  rw [ofInt_sub, BitVec.ofInt_natCast, BitVec.ofNat_toNat, BitVec.setWidth_eq, hsize]

section BitFields

variable {s t : State} {rev : Revision} {rt : Reg} {ac : Acc} {size : Nat} {dec : Bool}

/-- EXTP and EXTPV, with pos at least size (R361, R362). -/
theorem extract_of_le (h : Enabled s rev) (hle : size ≤ s.pos.toNat) :
    ∃ v : Word, s.extract rev rt ac size false = .next { toGpr s rt v with dspControl := s.dspControl &&& 0xFFFFBFFF#32 } ∧
      ∀ k, k < 32 → v.getLsbD k = (decide (k ≤ size) && (s.acc ac).getLsbD (s.pos.toNat - size + k)) := by
  refine ⟨_, State.extract_eq_next.2 ⟨checkDSP_of_enabled h, .inl ⟨hle, ?_⟩⟩, fun _ => getLsbD_extractBits _ _ _⟩
  rw [advance_writeGpr, ← setField_efi_zero]
  rfl

/-- EXTPDP and EXTPDPV, with pos at least size (R363, R364). -/
theorem extract_dec_of_le (h : Enabled s rev) (hle : size ≤ s.pos.toNat) :
    ∃ v : Word, s.extract rev rt ac size true =
        .next { toGpr s rt v with
                  dspControl := (s.dspControl &&& 0xFFFFBFC0#32) |||
                    (BitVec.ofInt 6 ((s.pos.toNat : Int) - (size + 1))).setWidth 32 } ∧
      ∀ k, k < 32 → v.getLsbD k = (decide (k ≤ size) && (s.acc ac).getLsbD (s.pos.toNat - size + k)) := by
  refine ⟨_, State.extract_eq_next.2 ⟨checkDSP_of_enabled h, .inl ⟨hle, ?_⟩⟩, fun _ => getLsbD_extractBits _ _ _⟩
  rw [advance_writeGpr, ← setField_pos_setField_efi_zero, ← pos_sub_eq_ofInt]
  rfl

/-- All four, with pos below size: EFI is set and the register takes a draw (R360). -/
theorem extract_of_lt (h : Enabled s rev) (hlt : s.pos.toNat < size) :
    ∃ (v : Word) (t : State), s.extract rev rt ac size dec = .next t ∧
      t = { toGpr s rt v with dspControl := s.dspControl ||| 0x00004000#32, draws := t.draws } := by
  have hbit : 1#32 <<< 14 = 0x00004000#32 := by decide
  refine ⟨Config.freeWord s.draws, _, State.extract_eq_next.2 ⟨checkDSP_of_enabled h, .inr ⟨hlt, rfl⟩⟩, ?_⟩
  rw [advance_writeGprFree, ← hbit, ← setField_one]
  rfl

/-- EFI after an extraction, failed or not (R366). -/
theorem efi_of_extract_eq_next (h : s.extract rev rt ac size dec = .next t) :
    t.dspControl.getLsbD 14 = decide (s.pos.toNat < size) := by
  obtain ⟨-, ⟨hle, rfl⟩ | ⟨hlt, rfl⟩⟩ := State.extract_eq_next.1 h
  · rw [decide_eq_false (Nat.not_lt.2 hle)]
    cases dec <;> simp [getLsbD_setField, -BitVec.getLsbD_eq_getElem]
  · rw [decide_eq_true hlt]
    simp [getLsbD_setField, -BitVec.getLsbD_eq_getElem]

end BitFields

/-! ## The accumulator shifts (R370, R371) -/

/-- Bit k of the shifted accumulator is bit k + shift, where there is one. -/
theorem getLsbD_shiftAcc (c : DWord) (shift : Int) {k : Nat} (hk : k < 64) :
    (shiftAcc c shift).getLsbD k = (decide (0 ≤ (k : Int) + shift) && c.getLsbD ((k : Int) + shift).toNat) := by
  rw [shiftAcc]
  split
  · next hright =>
    have hbit : shift.toNat + k = ((k : Int) + shift).toNat := by omega
    rw [BitVec.getLsbD_ushiftRight, hbit, decide_eq_true (by omega), Bool.true_and]
  · next hleft =>
    have hbit : k - (-shift).toNat = ((k : Int) + shift).toNat := by omega
    have hin : ¬ k < (-shift).toNat ↔ 0 ≤ (k : Int) + shift := by omega
    rw [BitVec.getLsbD_shiftLeft, hbit, decide_eq_true hk, Bool.true_and, ← decide_not, decide_eq_decide.2 hin]

/-- The signed amount in the low bits of a register (30_encoding.md R103; C35). -/
theorem ofTwos_amount (v : Word) (bits : Nat) : ofTwos (amount v bits) bits = (v.extractLsb' 0 bits).toInt := by
  rw [ofTwos, BitVec.toInt_eq_toNat_cond, toNat_extractLsb'_eq_amount]

theorem guarded_writeAcc_of_enabled {s : State} {rev : Revision} {a : Acc} {v : DWord} (h : Enabled s rev) :
    s.guarded rev (s.writeAcc a v).retire = .next (toAcc s a v) := by
  rw [guarded_of_enabled h, State.retire, advance_writeAcc]

/-! ## The moves (R376 to R380) -/

/-- The two halves written one after the other are the accumulator written at once. -/
theorem writeHi_writeLo_eq_writeAcc (s : State) (a : Acc) (x y : Word) :
    (s.writeHi a x).writeLo a y = s.writeAcc a (x ++ y) := by
  have hhigh : (x ++ y).extractLsb' 32 32 = x := BitVec.extractLsb'_append_eq_left
  have hlow : (x ++ y).extractLsb' 0 32 = y := BitVec.extractLsb'_append_eq_right
  rw [State.writeAcc, hhigh, hlow]

section Moves

variable {s : State} {r : Reg} {ac : Acc}

/-- MTHLIP with pos at most 32 (R376; pos = 32 wraps to 0 by D24). -/
theorem exec_mthlip_of_le (h : Enabled s .rev1) (hle : s.pos.toNat ≤ 32) :
    exec (.mthlip r ac) s =
      .next { toAcc s ac (s.readLo ac ++ s.readGpr r) with
        dspControl := (s.dspControl &&& 0xFFFFFFC0#32) ||| BitVec.ofNat 32 ((s.pos.toNat + 32) % 64) } := by
  have hpos : (s.pos + 32#6).setWidth 32 = BitVec.ofNat 32 ((s.pos.toNat + 32) % 64) := by
    rw [← BitVec.ofNat_toNat, BitVec.toNat_add]
    rfl
  rw [← hpos, ← setField_pos, ← advance_writeAcc, ← writeHi_writeLo_eq_writeAcc]
  exact (guarded_of_enabled h _).trans (congrArg State.retire (if_neg (Nat.not_lt.2 hle)))

/-- MTHLIP with pos above 32: three draws (R376; D24). -/
theorem exec_mthlip_of_gt (h : Enabled s .rev1) (hgt : 32 < s.pos.toNat) :
    exec (.mthlip r ac) s =
      .next { toAcc s ac (Config.freeWord s.draws ++ Config.freeWord (s.draws + 1)) with
        dspControl := (s.dspControl &&& 0xFFFFFFC0#32) ||| (Config.freeBits6 (s.draws + 2)).setWidth 32,
        draws := s.draws + 3 } := by
  rw [← setField_pos, ← advance_writeAcc, ← writeHi_writeLo_eq_writeAcc]
  exact (guarded_of_enabled h _).trans (congrArg State.retire (if_pos hgt))

/-- MFHI and MFLO: ac0 is read, so nothing in it is pending (70_reset_and_hazards.md R446). -/
theorem guarded_writeGpr_setPending_of_enabled {v : Word} {b : Bool} (h : Enabled s .rev1) :
    s.guarded .rev1 ((s.writeGpr r v).setPending ac b).retire =
      .next { toGpr s r v with hiloPending := if ac = 0 then b else s.hiloPending } := by
  rw [guarded_of_enabled h, ← advance_writeGpr, State.retire, State.setPending]
  split
  · rfl
  · rw [← State.hiloPending_writeGpr s r v, ← State.hiloPending_advance]

theorem exec_mthi_of_not_pending (h : Enabled s .rev1) (hp : ¬ (ac = 0 ∧ s.hiloPending = true)) :
    exec (.mthi r ac) s = .next { s with hi := s.hi.set ac (s.readGpr r), pc := s.pc + 4#32 } :=
  (guarded_of_enabled h _).trans (congrArg State.retire (if_neg hp))

theorem exec_mtlo_of_not_pending (h : Enabled s .rev1) (hp : ¬ (ac = 0 ∧ s.hiloPending = true)) :
    exec (.mtlo r ac) s = .next { s with lo := s.lo.set ac (s.readGpr r), pc := s.pc + 4#32 } :=
  (guarded_of_enabled h _).trans (congrArg State.retire (if_neg hp))

theorem exec_mthi_of_pending (h : Enabled s .rev1) (hp : s.hiloPending = true) :
    exec (.mthi r 0) s =
      .next { s with hi := s.hi.set 0 (s.readGpr r), lo := s.lo.set 0 (Config.freeWord s.draws), pc := s.pc + 4#32,
                     draws := s.draws + 1 } :=
  (guarded_of_enabled h _).trans (congrArg State.retire (if_pos ⟨rfl, hp⟩))

theorem exec_mtlo_of_pending (h : Enabled s .rev1) (hp : s.hiloPending = true) :
    exec (.mtlo r 0) s =
      .next { s with lo := s.lo.set 0 (s.readGpr r), hi := s.hi.set 0 (Config.freeWord s.draws), pc := s.pc + 4#32,
                     draws := s.draws + 1 } :=
  (guarded_of_enabled h _).trans (congrArg State.retire (if_pos ⟨rfl, hp⟩))

end Moves

/-! ## The mask of WRDSP and RDDSP (R384, R385) -/

/-- A bit of a field that a mask bit selects. -/
theorem getLsbD_ite_zero (b : Bool) (m : Word) (k : Nat) : (if b then m else 0#32).getLsbD k = (b && m.getLsbD k) := by
  cases b with
  | false => exact BitVec.getLsbD_zero
  | true => rfl

/-- The six masks of the table, field by field. -/
theorem getLsbD_dspFields : ∀ k < 32,
    (0x0000003F#32).getLsbD k = decide (k ≤ 5) ∧ (0x00001F80#32).getLsbD k = decide (7 ≤ k ∧ k ≤ 12) ∧
    (0x00002000#32).getLsbD k = decide (k = 13) ∧ (0x00FF0000#32).getLsbD k = decide (16 ≤ k ∧ k ≤ 23) ∧
    (0x0F000000#32).getLsbD k = decide (24 ≤ k ∧ k ≤ 27) ∧ (0x00004000#32).getLsbD k = decide (k = 14) := by
  decide

theorem getLsbD_dspMask (mask : Nat) {k : Nat} (hk : k < 32) : (dspMask mask).getLsbD k = maskSelects mask k := by
  obtain ⟨hpos, hscount, hcarry, houflag, hccond, hefi⟩ := getLsbD_dspFields k hk
  simp only [dspMask, maskSelects, BitVec.getLsbD_or, getLsbD_ite_zero, hpos, hscount, hcarry, houflag, hccond, hefi]

end Sys2Proof.Proofs

open Sys2Proof Sys2Proof.Machine Sys2Proof.Claims Sys2Proof.Proofs

/-- Settles O52: the shifted value and the rounded one fit 65 bits, so the bit tests are those of the integers. -/
theorem wordExtractionResults : Obligations.WordExtractionResults := by
  refine ⟨fun s rt ac shift _ h => ⟨?_, ?_, ?_⟩, fun s rt ac rs h => ?_⟩
  · exact extr_of_enabled h (extrW_eq_printed _ _)
  · exact extr_of_enabled h (extrRW_eq_printed _ _)
  · exact extr_of_enabled h (extrRsW_eq_printed _ _)
  · rw [toNat_extractLsb'_eq_amount]
    exact ⟨extr_of_enabled h (extrW_eq_printed _ _), extr_of_enabled h (extrRW_eq_printed _ _),
      extr_of_enabled h (extrRsW_eq_printed _ _)⟩

/-- Settles O53: the comparisons of the shifted accumulator are those of the clamp to a halfword. -/
theorem halfwordExtractionResults : Obligations.HalfwordExtractionResults := by
  refine ⟨fun s rt ac shift _ h => extr_of_enabled h (extrSH_eq_printed _ _), fun s rt ac rs h => ?_⟩
  rw [toNat_extractLsb'_eq_amount]
  exact extr_of_enabled h (extrSH_eq_printed _ _)

/-- Settles O54: with pos at least size the field bit by bit, with pos below it a draw; the V forms take size from rs. -/
theorem bitfieldExtractionResults : Obligations.BitfieldExtractionResults := by
  refine ⟨fun s rt ac size _ h => ?_, fun s rt ac rs h => ?_, fun s rt ac size _ h => ?_, fun s rt ac rs h => ?_⟩
  · exact ⟨extract_of_le h, extract_of_lt h⟩
  · rw [toNat_extractLsb'_eq_amount]
    exact ⟨extract_of_le h, extract_of_lt h⟩
  · exact ⟨extract_dec_of_le h, extract_of_lt h⟩
  · rw [toNat_extractLsb'_eq_amount]
    exact ⟨extract_dec_of_le h, extract_of_lt h⟩

/-- Settles O55: each of the four is an extraction of `size`, which writes EFI in both cases; pos is a 6-bit field. -/
theorem extractionFailsExactlyIfPosIsBelowSize : Obligations.ExtractionFailsExactlyIfPosIsBelowSize := by
  intro s t rt rs ac size i _ hi hexec pos
  have hextract : ∃ dec, s.extract .rev1 rt ac size dec = .next t := by
    rcases hi with rfl | rfl | ⟨hsize, rfl | rfl⟩
    · exact ⟨false, hexec⟩
    · exact ⟨true, hexec⟩
    · rw [hsize, toNat_extractLsb'_eq_amount]
      exact ⟨false, hexec⟩
    · rw [hsize, toNat_extractLsb'_eq_amount]
      exact ⟨true, hexec⟩
  obtain ⟨dec, hextract⟩ := hextract
  have hefi : t.dspControl.getLsbD 14 = decide (pos < size) := efi_of_extract_eq_next hextract
  have hpos : pos < 64 := s.pos.isLt
  rw [hefi, decide_eq_true_iff, decide_eq_false_iff_not]
  exact ⟨Iff.rfl, by omega, fun _ => ⟨hpos, fun k _ => by omega⟩⟩

/-- Settles O56: both directions of the shift bit by bit. -/
theorem accumulatorShiftResults : Obligations.AccumulatorShiftResults := by
  refine ⟨fun s ac shift _ _ h => ?_, fun s ac rs h => ?_⟩
  · exact ⟨_, guarded_writeAcc_of_enabled h, fun _ => getLsbD_shiftAcc _ _⟩
  · rw [← ofTwos_amount]
    exact ⟨_, guarded_writeAcc_of_enabled h, fun _ => getLsbD_shiftAcc _ _⟩

/-- Settles O57: the two cases of pos. -/
theorem mthlipResults : Obligations.MthlipResults :=
  fun _ _ _ h => ⟨exec_mthlip_of_le h, fun hgt => ⟨_, _, _, exec_mthlip_of_gt h hgt, rfl⟩⟩

/-- Settles O58: the reads end the restricted interval of ac0, the writes inside it draw the other half. -/
theorem moveFromAndToAccumulatorResults : Obligations.MoveFromAndToAccumulatorResults := by
  intro s r ac h
  refine ⟨guarded_writeGpr_setPending_of_enabled h, guarded_writeGpr_setPending_of_enabled h,
    fun hp => ⟨exec_mthi_of_not_pending h hp, exec_mtlo_of_not_pending h hp⟩, ?_⟩
  rintro rfl hp
  exact ⟨⟨_, _, exec_mthi_of_pending h hp, rfl⟩, ⟨_, _, exec_mtlo_of_pending h hp, rfl⟩⟩

/-- Settles O59: the mask of the model selects the bits of the table's fields. -/
theorem dspControlAccessResults : Obligations.DspControlAccessResults := by
  intro s rt mask _ h
  refine ⟨⟨_, guarded_of_enabled h _, fun k hk => ?_⟩, ⟨_, guarded_writeGpr_of_enabled h, fun k hk => ?_⟩⟩
  · rw [← getLsbD_dspMask mask hk]
    exact getLsbD_writeDsp s mask _ k
  · rw [State.readDsp, BitVec.getLsbD_and, getLsbD_dspMask mask hk, Bool.and_comm]

end

section
/-! SUPPORT. The access check decides the answer of every instruction (60_exceptions.md R400 to R404), and the two events that move
state out of sight of the program: hilo_pending and the clobber of ac0 (70_reset_and_hazards.md R446, R447). -/

namespace Sys2Proof.Proofs

open Sys2Proof.Machine Sys2Proof.Claims

/-! ## The access check raises the exceptions of Table 3.7 (60_exceptions.md R402 to R404) -/

/-- Every level needs DSPP, and every level but Rev1 also DSP2P (R403; D2). -/
theorem present_eq (c : Config) (rev : Revision) : Config.present c rev = (c.dspp && (decide (rev = .rev1) || c.dsp2p)) := by
  cases rev with
  | rev1 => exact (Bool.and_true _).symm
  | rev2 => exact Bool.and_comm _ _
  | rev3 => rfl

section Check

variable {i : Instr} {s : State}

/-- What the access check raises, no Operation takes back. -/
theorem exec_of_checkDSP_eq_some {k : ExceptionKind} (h : s.checkDSP (revisionOf i) = some k) : exec i s = s.raise k := by
  obtain ⟨body, hexec, -⟩ := exec_eq_guarded i s
  rw [hexec, State.guarded, h]

theorem exec_of_absent (h : Config.present s.cfg (revisionOf i) = false) : exec i s = .fault (.reservedInstruction s.pc) :=
  exec_of_checkDSP_eq_some (k := .reservedInstruction) (if_pos h)

theorem exec_of_disabled (h : Config.present s.cfg (revisionOf i) = true) (hmx : s.mx = false) :
    exec i s = .fault (.dspDisabled s.pc) := by
  have hcheck : s.checkDSP (revisionOf i) = some .dspDisabled := by
    rw [State.checkDSP, if_neg (ne_false_of_eq_true h), if_pos hmx]
  exact exec_of_checkDSP_eq_some hcheck

/-- An enabled instruction answers what its Operation does. -/
theorem operation_exec_of_enabled (h : Enabled s (revisionOf i)) : Operation i s (exec i s) := by
  obtain ⟨body, hexec, hop⟩ := exec_eq_guarded i s
  rwa [hexec, guarded_of_enabled h]

end Check

/-- No Operation raises an exception (R423). -/
theorem Operation.ne_fault {i : Instr} {s : State} {out : Out} (h : Operation i s out) (f : Fault) : out ≠ .fault f := by
  cases h <;> exact nofun

/-- The refusal of INSV is the one way not to complete (45_bitmanip.md R312). -/
theorem Operation.exists_next {i : Instr} {s : State} {out : Out} (h : Operation i s out) (hdef : ¬ Unpredictable i s) :
    ∃ t, out = .next t := by
  cases h with
  | retire => exact ⟨_, rfl⟩
  | wrdsp => exact ⟨_, rfl⟩
  | branch => exact ⟨_, rfl⟩
  | @refuse rt rs _ hsize => exact absurd ⟨⟨rt, rs, rfl⟩, BitVec.eq_of_toNat_eq hsize⟩ hdef

/-- The fields outside the frame, as one equation: with the others put back, the state is the old one. -/
theorem Frame.restored_eq {i : Instr} {s t : State} (h : Frame i s t) :
    { t with gpr := s.gpr, pc := s.pc, hi := s.hi, lo := s.lo, dspControl := s.dspControl,
             hiloPending := s.hiloPending, draws := s.draws } = s := by
  obtain ⟨-, -, -, -, hcfg, hstatus, hllbit, hisa, hslot, hmem, -⟩ := h
  rw [hcfg, hstatus, hllbit, hisa, hslot, hmem]

/-! ## hilo_pending (70_reset_and_hazards.md R446) -/

section Pending

variable {s t : State}

/-- Neither the access check nor the advance of pc touches hilo_pending: it is that of the updates in between. -/
theorem hiloPending_of_retire {rev : Revision} {u : State} {b : Bool} (h : s.guarded rev u.retire = .next t)
    (hu : u.hiloPending = b) : t.hiloPending = b := by
  obtain ⟨-, hretire⟩ := State.guarded_eq_next.1 h
  rw [← State.retire_eq_next.1 hretire, State.hiloPending_advance, hu]

theorem hiloPending_of_extract {rev : Revision} {rt : Reg} {ac : Acc} {size : Nat} {dec : Bool}
    (h : s.extract rev rt ac size dec = .next t) : t.hiloPending = s.hiloPending :=
  hiloPending_of_retire h (by simp [apply_ite State.hiloPending])

theorem hiloPending_of_execInsv {rt rs : Reg} (h : execInsv rt rs s = .next t) : t.hiloPending = s.hiloPending := by
  obtain ⟨-, hbody⟩ := State.guarded_eq_next.1 h
  split at hbody
  · cases hbody
  · split at hbody
    · simp [← State.retire_eq_next.1 hbody]
    · simp [← State.retire_eq_next.1 hbody]

theorem hiloPending_of_execBposge32c {offset : Int} (h : execBposge32c offset s = .next t) : t.hiloPending = s.hiloPending := by
  obtain ⟨-, hbody⟩ := State.guarded_eq_next.1 h
  rw [← Host.Outcome.next.inj hbody]

end Pending

/-! ## The clobber of ac0 (70_reset_and_hazards.md R447) -/

theorem readHi_advance_clobberAc0 (s : State) (a : Acc) :
    s.clobberAc0.advance.readHi a = if a = 0 then Config.freeWord s.draws else s.readHi a :=
  State.readHi_writeHi s 0 (Config.freeWord s.draws) a

theorem readLo_advance_clobberAc0 (s : State) (a : Acc) :
    s.clobberAc0.advance.readLo a = if a = 0 then Config.freeWord (s.draws + 1) else s.readLo a :=
  State.readLo_writeLo s 0 (Config.freeWord (s.draws + 1)) a

section Clobber

variable {s t : State} {rev : Revision} {rd : Reg} {v : Word × Bool}

/-- The end of every multiply that writes a GPR (R240): after the flag and the result two draws go into ac0, and into it alone. -/
theorem ac0_free_of_retire (h : s.guarded rev ((s.flagIf 21 v.2).writeGpr rd v.1).clobberAc0.retire = .next t) :
    t.readHi 0 = Config.freeWord s.draws ∧ t.readLo 0 = Config.freeWord (s.draws + 1) ∧ ∀ a ≠ 0, t.acc a = s.acc a := by
  obtain ⟨-, hretire⟩ := State.guarded_eq_next.1 h
  obtain rfl := State.retire_eq_next.1 hretire
  refine ⟨?_, ?_, fun a ha => ?_⟩
  · rw [readHi_advance_clobberAc0, if_pos rfl, State.draws_writeGpr, State.draws_flagIf]
  · rw [readLo_advance_clobberAc0, if_pos rfl, State.draws_writeGpr, State.draws_flagIf]
  · rw [State.acc, readHi_advance_clobberAc0, readLo_advance_clobberAc0, if_neg ha, if_neg ha, State.readHi, State.readLo,
      State.hi_writeGpr, State.hi_flagIf, State.lo_writeGpr, State.lo_flagIf]
    rfl

end Clobber

end Sys2Proof.Proofs

open Sys2Proof Sys2Proof.Machine Sys2Proof.Claims Sys2Proof.Proofs

/-- Settles O13: the rows of the table are the cases of the access check, and no Operation raises an exception behind it. -/
theorem accessCheckFollowsTable37 : Obligations.AccessCheckFollowsTable37 := by
  intro i s dspp dsp2p mx
  have hpresent : Config.present s.cfg (revisionOf i) = (dspp && (decide (revisionOf i = .rev1) || dsp2p)) := present_eq _ _
  refine ⟨fun _ hdspp => ?_, fun hdsp2p _ hrev => ?_, fun _ hdspp hmx hrev => ?_, fun _ hdspp hmx hrev => ?_,
    fun hdsp2p hdspp hmx => ?_, fun hdsp2p hdspp hmx => ?_⟩
  · exact ⟨_, exec_of_absent (by rw [hpresent, hdspp, Bool.false_and])⟩
  · exact ⟨_, exec_of_absent (by simp [hpresent, hdsp2p, hrev])⟩
  · exact ⟨_, exec_of_disabled (by rw [hpresent, hdspp, hrev]; rfl) hmx⟩
  · exact (operation_exec_of_enabled ⟨hdspp, fun hne => absurd hrev hne, hmx⟩).ne_fault
  · exact ⟨_, exec_of_disabled (by simp [hpresent, hdspp, hdsp2p]) hmx⟩
  · exact (operation_exec_of_enabled ⟨hdspp, fun _ => hdsp2p, hmx⟩).ne_fault

/-- Settles O14: behind a passed check every Operation but the refused one answers a next state, which is within the frame. -/
theorem everyEnabledInstructionCompletes : Obligations.EveryEnabledInstructionCompletes := by
  intro i s henabled hdef
  obtain ⟨t, hexec⟩ := (operation_exec_of_enabled henabled).exists_next hdef
  exact ⟨t, hexec, (exec_frame hexec).restored_eq⟩

/-- Settles O22: MULT, MULTU, MFHI and MFLO end in `State.setPending`, and no other update writes the bit. -/
theorem pendingBitFollowsItsTable : Obligations.PendingBitFollowsItsTable := by
  refine ⟨rfl, fun i s t hexec => ?_⟩
  cases i with
  | mult ac | multu ac =>
    exact hiloPending_of_retire hexec (by rw [State.hiloPending_setPending, State.hiloPending_writeAcc])
  | mfhi _ ac | mflo _ ac =>
    exact hiloPending_of_retire hexec (by rw [State.hiloPending_setPending, State.hiloPending_writeGpr])
  | mthi | mtlo | mthlip => exact hiloPending_of_retire hexec (by simp [apply_ite State.hiloPending])
  | extpv | extpdpv | extp | extpdp => exact hiloPending_of_extract hexec
  | insv => exact hiloPending_of_execInsv hexec
  | bposge32c => exact hiloPending_of_execBposge32c hexec
  | _ => exact hiloPending_of_retire hexec (by simp)

/-- Settles O41: all ten end in the clobber of ac0. -/
theorem gprMultipliesLeaveAc0FreeAndTheOthersAlone : Obligations.GprMultipliesLeaveAc0FreeAndTheOthersAlone := by
  intro s t rd rs rt i hi hexec
  have hac0 : t.readHi 0 = Config.freeWord s.draws ∧ t.readLo 0 = Config.freeWord (s.draws + 1) ∧
      ∀ a ≠ 0, t.acc a = s.acc a := by
    simp only [List.mem_cons, List.not_mem_nil, or_false] at hi
    rcases hi with rfl | rfl | rfl | rfl | rfl | rfl | rfl | rfl | rfl | rfl <;> exact ac0_free_of_retire hexec
  obtain ⟨hhi, hlo, hother⟩ := hac0
  exact ⟨hhi, hlo, hother 1 (by decide), hother 2 (by decide), hother 3 (by decide)⟩

end
